-- ==== Sys2Proof/Word.lean ====
section
/-! DEFINITION. The two word types of the unit (00_scope R7, R9: bit 0 is the least significant bit). -/

namespace Sys2Proof

/-- A 32-bit pattern (u32): operands, RESULT, CUR, LAST, HI, sample_data. -/
abbrev Word := BitVec 32

/-- A 64-bit value (u64, or a binary64 pattern): COUNT, BUDGET, EPS and their operands. -/
abbrev Word64 := BitVec 64

end Sys2Proof
end

