-- ==== Sys2Proof/Machine/Port.lean ====
section
/-! DEFINITION. The unit's inputs (10_state R30, 70_reset_and_hazards R159): what the host puts on the wires in one
architectural step. They are inputs of the step relation, not registers (10_state R36). -/

namespace Sys2Proof.Machine

/-- R30, R56: the operand and opcode wires of the command port. -/
structure Command where
  op     : BitVec 1
  a      : Word
  b      : Word
  eps    : Word64
  budget : Word64
  deriving DecidableEq, Repr

/-- R175: all the inputs of one architectural step: `rst`, `cmd_valid` and the command wires. -/
structure HostMove where
  rst      : Bool
  cmdValid : Bool
  cmd      : Command
  deriving DecidableEq, Repr

end Sys2Proof.Machine
end

