-- ==== Sys2Proof/Syntax.lean ====
section
/-! DEFINITION. The command set, whole: one constructor per row of the opcode table (30_encoding R55, R67). -/

namespace Sys2Proof

/-- A host command. `next` and `next_representable` are other names of STEP, `enumerate` and `count_and_sample` of ENUM (R68). -/
inductive Instr where
  /-- `STEP a` (41_step R105). The command word's other operand fields are no part of the command (30_encoding R57). -/
  | step (a : Word)
  /-- `ENUM a, b, eps, budget` (42_enum R111): the two bounds in either order, epsilon as a binary64 pattern, and the step
  budget, 0 for none. -/
  | enum (a b : Word) (eps budget : Word64)
  deriving DecidableEq, Repr

end Sys2Proof
end

