-- ==== Sys2Proof/Machine/Operands.lean ====
section
/-! DEFINITION. The combinational functions on operands (40_reinterpret_fields): reinterpretation, field extraction and packing,
the classifier, the total order, and the real-number meaning of a pattern. -/

namespace Sys2Proof.Machine

/-! ## Reinterpretation and fields -/

/-- R75: a FloatValue is its 32-bit pattern on 32 wires, so reading its bits is the identity. -/
def bitsOf (v : Word) : Word := v

/-- R75: the other direction of the reinterpretation, again 32 wires. -/
def floatOf (p : Word) : Word := p

/-- R77: the sign field, by shifting and masking: bit 31. -/
def signOf (p : Word) : BitVec 1 := ((p >>> 31) &&& 0x1#32).setWidth 1

/-- R77: the biased exponent field, by shifting and masking: bits 30:23. -/
def exponentOf (p : Word) : BitVec 8 := ((p >>> 23) &&& 0xFF#32).setWidth 8

/-- R77: the mantissa field, by masking: bits 22:0. -/
def mantissaOf (p : Word) : BitVec 23 := (p &&& 0x007FFFFF#32).setWidth 23

/-- R77: the three fields together. -/
def unpack (p : Word) : BitVec 1 × BitVec 8 × BitVec 23 := (signOf p, exponentOf p, mantissaOf p)

/-- R78: the pattern with the given fields. -/
def pack (S : BitVec 1) (E : BitVec 8) (M : BitVec 23) : Word :=
  (S.setWidth 32 <<< 31) ||| (E.setWidth 32 <<< 23) ||| M.setWidth 32

/-- R80: `MANT_MAX`, the all-ones mantissa 2^23 − 1. -/
def mantMax : BitVec 23 := 0x7FFFFF#23

/-- R80: `EXP_MAX_FINITE`, the largest finite exponent. -/
def expMaxFinite : BitVec 8 := 254#8

/-- R80: `EXP_SPECIAL`, the exponent of the infinities and the NaNs. -/
def expSpecial : BitVec 8 := 255#8

/-- R14: a pattern is finite when its exponent field is not 255. -/
def isFinite (p : Word) : Bool := exponentOf p != expSpecial

/-- R84: an infinity, of either sign. -/
def isInfinite (p : Word) : Bool := exponentOf p == expSpecial && mantissaOf p == 0#23

/-- R84: a NaN, of either sign. -/
def isNaN (p : Word) : Bool := exponentOf p == expSpecial && mantissaOf p != 0#23

/-- R83: a subnormal pattern. -/
def isSubnormal (p : Word) : Bool := exponentOf p == 0#8 && mantissaOf p != 0#23

/-- R83: a normal pattern. -/
def isNormal (p : Word) : Bool := exponentOf p != 0#8 && exponentOf p != expSpecial

/-! ## The operand classifier -/

/-- R81: the seven operand classes of the stepper. -/
inductive OperandClass where
  | nanInf
  | posMax
  | negZero
  | posCarry
  | negBorrow
  | posInc
  | negDec
  deriving DecidableEq, Repr

/-- R81: the class of a pattern, from its fields. -/
def classify (p : Word) : OperandClass :=
  if exponentOf p = expSpecial then .nanInf
  else if signOf p = 0#1 then
    if mantissaOf p = mantMax then
      if exponentOf p = expMaxFinite then .posMax else .posCarry
    else .posInc
  else if mantissaOf p = 0#23 then
    if exponentOf p = 0#8 then .negZero else .negBorrow
  else .negDec

/-- R62: one row of the classifier's mask and match table. -/
structure ClassRow where
  mask  : Word
  value : Word
  cls   : OperandClass
  deriving DecidableEq, Repr

/-- R62: the mask and match table, tested in this order. -/
def classRows : List ClassRow :=
  [⟨0x7F800000#32, 0x7F800000#32, .nanInf⟩,
   ⟨0xFFFFFFFF#32, 0x7F7FFFFF#32, .posMax⟩,
   ⟨0xFFFFFFFF#32, 0x80000000#32, .negZero⟩,
   ⟨0x807FFFFF#32, 0x007FFFFF#32, .posCarry⟩,
   ⟨0x807FFFFF#32, 0x80000000#32, .negBorrow⟩,
   ⟨0x80000000#32, 0x00000000#32, .posInc⟩,
   ⟨0x80000000#32, 0x80000000#32, .negDec⟩]

/-- R62: the first row whose masked pattern matches. -/
def classifyByMask (p : Word) : Option OperandClass :=
  (classRows.find? fun r => p &&& r.mask == r.value).map ClassRow.cls

/-! ## The total order -/

/-- R89: the magnitude bits, exponent above mantissa. -/
def magOf (p : Word) : BitVec 31 := p.setWidth 31

/-- R88: the key, as the exact integer. The spec defines it for finite patterns. -/
def key (p : Word) : Int :=
  if signOf p = 0#1 then (magOf p).toNat else -1 - (magOf p).toNat

/-- R88: the key as the i32 the bit operation gives. -/
def keyBits (p : Word) : BitVec 32 :=
  if signOf p = 0#1 then p else p ^^^ 0x7FFFFFFF#32

/-- R87: the total order on finite patterns, as the source words it. -/
abbrev LeTotal (p q : Word) : Prop :=
  (signOf p = 1#1 ∧ signOf q = 0#1) ∨
  (signOf p = 0#1 ∧ signOf q = 0#1 ∧ p.toNat ≤ q.toNat) ∨
  (signOf p = 1#1 ∧ signOf q = 1#1 ∧ q.toNat ≤ p.toNat)

/-! ## Real-number meaning

`real32` and `real64` are the spec's own formulas over the rationals. The fixed-point forms are what the sample test computes
with; `Obligations.SampleTestIsTheExactRealComparison` states that they agree. On patterns whose exponent field is all ones
the spec defines neither, and no rule of the model uses them there. -/

/-- R85: the real number a finite binary32 pattern denotes. -/
def real32 (p : Word) : ℚ :=
  if exponentOf p = 0#8 then
    (-1) ^ (signOf p).toNat * (2 : ℚ) ^ (-149 : ℤ) * (mantissaOf p).toNat
  else
    (-1) ^ (signOf p).toNat * (2 : ℚ) ^ (((exponentOf p).toNat : ℤ) - 150) * (2 ^ 23 + (mantissaOf p).toNat)

/-- R60: the sign field of a binary64 pattern, bit 63. -/
def signOf64 (q : Word64) : BitVec 1 := q.extractLsb' 63 1

/-- R60: the biased exponent field of a binary64 pattern, bits 62:52. -/
def exponentOf64 (q : Word64) : BitVec 11 := q.extractLsb' 52 11

/-- R60: the fraction field of a binary64 pattern, bits 51:0. -/
def fractionOf64 (q : Word64) : BitVec 52 := q.extractLsb' 0 52

/-- R86: the real number a finite binary64 pattern denotes. -/
def real64 (q : Word64) : ℚ :=
  if exponentOf64 q = 0#11 then
    (-1) ^ (signOf64 q).toNat * (2 : ℚ) ^ (-1074 : ℤ) * (fractionOf64 q).toNat
  else
    (-1) ^ (signOf64 q).toNat * (2 : ℚ) ^ (((exponentOf64 q).toNat : ℤ) - 1075) * (2 ^ 52 + (fractionOf64 q).toNat)

/-- The magnitude of a finite binary32 pattern in units of 2^−149, the weight of its least bit (R85, R115). -/
def fixedMag32 (p : Word) : Nat :=
  if exponentOf p = 0#8 then (mantissaOf p).toNat
  else (2 ^ 23 + (mantissaOf p).toNat) <<< ((exponentOf p).toNat - 1)

/-- `real32` in units of 2^−149. -/
def fixed32 (p : Word) : Int :=
  if signOf p = 0#1 then (fixedMag32 p : Int) else -(fixedMag32 p : Int)

/-- The magnitude of a finite binary64 pattern in units of 2^−1074 (R86). -/
def fixedMag64 (q : Word64) : Nat :=
  if exponentOf64 q = 0#11 then (fractionOf64 q).toNat
  else (2 ^ 52 + (fractionOf64 q).toNat) <<< ((exponentOf64 q).toNat - 1)

/-- What a binary64 pattern means (R86): a real number in units of 2^−1074, an infinity, or not a number. -/
inductive EpsValue where
  | finite (units : Int)
  | posInf
  | negInf
  | nan
  deriving DecidableEq, Repr

/-- R86: the meaning of an epsilon pattern. -/
def epsValue (q : Word64) : EpsValue :=
  if exponentOf64 q = 2047#11 then
    if fractionOf64 q = 0#52 then
      if signOf64 q = 0#1 then .posInf else .negInf
    else .nan
  else .finite (if signOf64 q = 0#1 then (fixedMag64 q : Int) else -(fixedMag64 q : Int))

/-- R115: the absolute difference of two finite patterns' values, in units of 2^−149: exact, never rounded. -/
def fixedDistance (cur last : Word) : Nat := (fixed32 cur - fixed32 last).natAbs

/-- R115, R116: the sample test, a strict comparison of exact reals, extended to every epsilon. A unit of 2^−149 is 2^925
units of 2^−1074. -/
def exceeds (cur last : Word) (eps : Word64) : Bool :=
  match epsValue eps with
  | .finite units => decide (units < ((fixedDistance cur last <<< 925 : Nat) : Int))
  | .posInf => false
  | .negInf => true
  | .nan => false

end Sys2Proof.Machine
end

