-- ==== Sys2Proof/WellFormed.lean ====
section
/-! DEFINITION. The checks on commands. A command that fails `Instr.wellFormed` is still accepted and run: its effect is the
InvalidInput completion (30_encoding R64, 60_exceptions R138). -/

namespace Sys2Proof

/-- R64: no operand is an illegal encoding: the stepper's operand, and both bounds of an enumeration, are finite patterns.
Epsilon and budget have no illegal encoding. -/
def Instr.wellFormed : Instr → Bool
  | .step a => Machine.isFinite a
  | .enum a b _ _ => Machine.isFinite a && Machine.isFinite b

/-- R56: a number is a command word when it has no bit above bit 192, the highest wire of the command port. -/
def isCommandWord (n : Nat) : Bool := decide (n < 2 ^ 193)

end Sys2Proof
end

