-- ==== Sys2Proof/Decode.lean ====
section
/-! DEFINITION. The command decoder and encoder (30_encoding R55 to R58). At the command port decoding is total: both values of
`cmd_op` are defined (R63). A number that is no 193-bit command word is rejected by name. -/

namespace Sys2Proof

open Machine (Command)

/-- R55, R56: the decoder looks at `cmd_op` only and takes every operand whole from its field (R59). -/
def decode (c : Command) : Instr :=
  if c.op = 0#1 then .step c.a else .enum c.a c.b c.eps c.budget

/-- R56: the command wires as the one 193-bit command word CMD. -/
def joinWord (c : Command) : BitVec 193 :=
  (c.op ++ c.a ++ c.b ++ c.eps ++ c.budget).cast rfl

/-- R56: the command wires that a command word stands for. -/
def splitWord (w : BitVec 193) : Command where
  op     := w.extractLsb' 192 1
  a      := w.extractLsb' 160 32
  b      := w.extractLsb' 128 32
  eps    := w.extractLsb' 64 64
  budget := w.extractLsb' 0 64

/-- Why a number is not decoded. -/
inductive DecodeError where
  /-- It has a bit above bit 192, where the command port has no wire (R56). Raised by `decodeWord`; safe. -/
  | wiresAboveCmdOp (n : Nat)
  deriving DecidableEq, Repr

/-- R56: decoding a command word given as a number, total on all numbers. -/
def decodeWord (n : Nat) : Except DecodeError Instr :=
  if isCommandWord n then .ok (decode (splitWord (BitVec.ofNat 193 n))) else .error (.wiresAboveCmdOp n)

/-- The command this decoder reads from a word numbered as the opcode table numbers it: bit 192 is `cmd_op` (R56). The word is
the instruction's only word, so there is no order of words; `w` has no bit at or above `nbits`. -/
def decodeTableWord (_nbits w : Nat) : Option Instr :=
  match decodeWord w with
  | .ok i => some i
  | .error _ => none

/-- R57, R58: the command wires of an instruction. The fields STEP ignores are driven with zeros. -/
def encode : Instr → Command
  | .step a => ⟨0#1, a, 0#32, 0#64, 0#64⟩
  | .enum a b eps budget => ⟨1#1, a, b, eps, budget⟩

/-- R56: the 193-bit command word of an instruction. -/
def encodeWord (i : Instr) : BitVec 193 := joinWord (encode i)

end Sys2Proof
end

