-- ==== Sys2Proof/Config.lean ====
section
/-! DEFINITION. What one unit's surroundings fix and what the spec leaves open: opaque constants with no body, so that no proof
can rest on a value of theirs. -/

namespace Sys2Proof

/-- The name the spec gives the command set (00_scope R2). -/
def Config.commandSet : String := "StepFloat-HW 1.0"

/-- FREE VALUE (10_state R31, 93 U6): what the `sample_data` wires show in a step whose `sample_valid` is 0. The argument is
the step's draw number, so that two steps need not show the same pattern. Log entry 2. -/
opaque Config.freeSampleData : Nat → BitVec 32

/-- FREE VALUE (70 R160, 93 U7): the bits a register holds before the first reset step; the argument is the register's number
(10_state R27). Log entry 5. -/
opaque Config.powerUpBits : Nat → BitVec 64

/-- FREE VALUE (70 R160, 93 U7): the trace before the first reset step. Log entry 5. -/
opaque Config.powerUpSamples : List (BitVec 32)

/-- OPEN PARAMETER `TICK_CYCLES` (00_scope R8, 70 R173): clock cycles per architectural step. No rule depends on it. -/
opaque Config.tickCycles : Nat

/-- How many units there are beside the first; see `Config.nUnits`. -/
opaque Config.otherUnits : Nat

/-- OPEN PARAMETER `N_UNITS` (00_scope R8, 60 R156), at least 1. No rule depends on it. -/
def Config.nUnits : Nat := Config.otherUnits + 1

/-- DESIGN CHOICE: which values `HOST_BYTE_ORDER` can take. 20_memory R42 leaves the parameter open and names no value of it; a
wrapper could have another order, such as one that swaps the words of a 64-bit operand. These two are the model's; SAFE, since
nothing reads them. Log entry 16. -/
inductive ByteOrder where
  | littleEndian
  | bigEndian
  deriving DecidableEq, Repr, Inhabited

/-- OPEN PARAMETER `HOST_BYTE_ORDER` (00_scope R8, 20_memory R42): outside the unit, which has no bytes. No rule depends on
it. -/
opaque Config.hostByteOrder : ByteOrder

end Sys2Proof
end

