-- ==== Sys2Proof/Machine/Flags.lean ====
section
/-! DEFINITION. The unit's one condition code: STATUS (10_state R19, R28, 60_exceptions R136, R137). It has no other flag. -/

namespace Sys2Proof.Machine

/-- R137: the status codes the unit writes. Codes 5 to 7 are reserved and never written (R65). -/
inductive StatusCode where
  | none
  | ok
  | invalidInput
  | atInfinity
  | budgetExceeded
  deriving DecidableEq, Repr

/-- R137: the number of a status code, as STATUS[2:0] holds it. -/
def codeOf : StatusCode → BitVec 3
  | .none => 0#3
  | .ok => 1#3
  | .invalidInput => 2#3
  | .atInfinity => 3#3
  | .budgetExceeded => 4#3

/-- R136: the three error kinds. -/
inductive ErrorKind where
  | invalidInput
  | atInfinity
  | budgetExceeded
  deriving DecidableEq, Repr

/-- R137: the status code that reports an error kind. -/
def errorStatus : ErrorKind → StatusCode
  | .invalidInput => .invalidInput
  | .atInfinity => .atInfinity
  | .budgetExceeded => .budgetExceeded

end Sys2Proof.Machine
end

