-- ==== Sys2Proof/Machine/State.lean ====
section
/-! DEFINITION. The state of one unit (10_state R15, R27, R31), the state after reset (R35), and the reasons a step can stop. -/

namespace Sys2Proof.Machine

/-- The unit's ten pieces of state (R15), the sample port's output of the step just made (R31), and the model's own fields
`moves`, `draws` and `resetSeen`. -/
structure State where
  /-- RESULT (R18): the value of the last STEP that completed with OK. -/
  result    : Word
  /-- STATUS (R19): the condition code, numbered as in 60_exceptions R137. -/
  status    : BitVec 3
  /-- BUSY (R20): an ENUM is between its acceptance and its last tick. -/
  busy      : Bool
  /-- COUNT (R21): the running counter. -/
  count     : Word64
  /-- CUR (R22): the value the next tick will count. -/
  cur       : Word
  /-- LAST (R23): the most recently reported value. -/
  last      : Word
  /-- HI (R24): the upper bound of the running enumeration. -/
  hi        : Word
  /-- EPS (R25): epsilon of the running enumeration, a binary64 pattern. -/
  eps       : Word64
  /-- BUDGET (R26): the step budget of the running enumeration, 0 for none. -/
  budget    : Word64
  /-- SAMPLES (R31): the patterns emitted since the last ENUM acceptance, in emission order. -/
  samples   : List Word
  /-- The sample port in the step just made (R31): `some v` when `sample_valid` was 1 with `sample_data` v. -/
  sampleOut : Option Word
  /-- The model's own: the host's inputs still to come, one for each architectural step; after them the host presents
  nothing. Log entry 1. -/
  moves     : List HostMove
  /-- The model's own: how many steps have been made, the argument of the free value of `sample_data`. Log entry 3. -/
  draws     : Nat
  /-- The model's own: a reset step has happened (70 R160, R162, 93 U7). Log entry 4. -/
  resetSeen : Bool
  deriving DecidableEq, Repr

/-- R35: every register at its reset value, right after a reset step. -/
def State.reset : State where
  result    := 0x00000000#32
  status    := 0#3
  busy      := false
  count     := 0#64
  cur       := 0x00000000#32
  last      := 0x00000000#32
  hi        := 0x00000000#32
  eps       := 0x0000000000000000#64
  budget    := 0#64
  samples   := []
  sampleOut := none
  moves     := []
  draws     := 0
  resetSeen := true

/-- Why the machine stops. The spec's own errors are status codes, not faults (60_exceptions R144). -/
inductive Fault where
  /-- A tick would count with a CUR or LAST whose exponent field is 255. Raised by `tick`. The spec says that this cannot occur
  (42_enum R120) and gives such a pattern no real number (40 R85); no state after a reset step reaches it. SAFE: the model
  stops. Log entry 6. -/
  | cursorNotFinite
  deriving DecidableEq, Repr

/-- Why a command is given no meaning. -/
inductive Refusal where
  /-- An instruction with no meaning yet, by its mnemonic. Raised by an arm of `exec`; SAFE. No arm of this model raises it. -/
  | notModelled (mnemonic : String)
  /-- A command is accepted by a unit that has never been reset. Raised by `execStep` and `execEnum`. 93 U7: "the model should
  `refuse` a command accepted before any reset". SAFE: the model stops. Log entry 4. -/
  | beforeFirstReset
  deriving DecidableEq, Repr

end Sys2Proof.Machine
end

