-- ==== Sys2Proof/Machine/Ops.lean ====
section
/-! DEFINITION. The named operations on the state: the register writes of the rules, raising an error, the start of a step, the
reset step, and what the host sees on the output ports. -/

namespace Sys2Proof.Machine

/-! ## The host's inputs -/

/-- R174: the host presents nothing. The command wires are ignored then (R30), so their zeros mean nothing. -/
def presentNothing : HostMove := ⟨false, false, ⟨0#1, 0#32, 0#32, 0#64, 0#64⟩⟩

/-- R174: the host presents a command (`cmd_valid = 1`, `rst = 0`). -/
def present (c : Command) : HostMove := ⟨false, true, c⟩

/-- R175: the inputs of the step about to be made. -/
def hostInput (s : State) : HostMove := s.moves.headD presentNothing

/-- What every step does besides its own effect: this step's inputs are used up, the sample port shows no sample unless the
step emits one (R31), and the undriven `sample_data` wires take a new free value. -/
def beginStep (s : State) : State :=
  { s with moves := s.moves.tail, sampleOut := none, draws := s.draws + 1 }

/-! ## Register writes -/

/-- R105: STEP completes with a value: RESULT and STATUS OK. -/
def writeResult (r : Word) (s : State) : State :=
  { s with result := r, status := codeOf .ok }

/-- R144, R10: raising an error writes its code to STATUS and clears BUSY, and nothing else. -/
def raiseError (k : ErrorKind) (s : State) : State :=
  { s with status := codeOf (errorStatus k), busy := false }

/-- R121: an enumeration ends normally. -/
def finishRun (s : State) : State :=
  { s with status := codeOf .ok, busy := false }

/-- R112, R114: every ENUM acceptance clears COUNT and SAMPLES. -/
def clearCount (s : State) : State :=
  { s with count := 0#64, samples := [] }

/-- R114: CUR and LAST take the lower bound, HI the upper; EPS and BUDGET are latched. -/
def latchRange (lo hi : Word) (eps budget : Word64) (s : State) : State :=
  { s with cur := lo, last := lo, hi := hi, eps := eps, budget := budget }

/-- R114: STATUS <- NONE, BUSY <- 1. -/
def startRun (s : State) : State :=
  { s with status := codeOf .none, busy := true }

/-- R118: COUNT <- COUNT + 1. -/
def countOne (s : State) : State :=
  { s with count := s.count + 1#64 }

/-- R10, R31: `emit sample(v)`: on the sample port for this step, and appended to the trace. -/
def emitSample (v : Word) (s : State) : State :=
  { s with samples := s.samples ++ [v], sampleOut := some v }

/-- R119: LAST <- v. -/
def writeLast (v : Word) (s : State) : State :=
  { s with last := v }

/-- R120: CUR <- r. -/
def advanceTo (r : Word) (s : State) : State :=
  { s with cur := r }

/-! ## Reset -/

/-- R160: every register takes its reset value. What is left is no register of the unit: the host's inputs still to come and
the draw number. -/
def resetUnit (s : State) : State :=
  { State.reset with moves := s.moves, draws := s.draws }

/-- R160, 93 U7: a unit before its first reset step: every register any value. Log entry 5. -/
def State.powerUp (moves : List HostMove) : State where
  result    := (Config.powerUpBits 0).setWidth 32
  status    := (Config.powerUpBits 1).setWidth 3
  count     := Config.powerUpBits 2
  busy      := (Config.powerUpBits 3).getLsbD 0
  cur       := (Config.powerUpBits 4).setWidth 32
  last      := (Config.powerUpBits 5).setWidth 32
  hi        := (Config.powerUpBits 6).setWidth 32
  eps       := Config.powerUpBits 7
  budget    := Config.powerUpBits 8
  samples   := Config.powerUpSamples
  sampleOut := none
  moves     := moves
  draws     := 0
  resetSeen := false

/-! ## Output ports -/

/-- R32: `cmd_ready = NOT BUSY`. -/
def cmdReady (s : State) : Bool := !s.busy

/-- R31: `sample_valid` in the step just made. -/
def sampleValid (s : State) : Bool := s.sampleOut.isSome

/-- R31: `sample_data` in the step just made: the sample, or a free value when there is none. -/
def sampleData (s : State) : Word :=
  match s.sampleOut with
  | some v => v
  | none => Config.freeSampleData s.draws

/-- R27: the nine registers. -/
inductive Reg where
  | result
  | status
  | count
  | busy
  | cur
  | last
  | hi
  | eps
  | budget
  deriving DecidableEq, Repr

/-- R27: a register's number, a label only. -/
def regNumber : Reg → Nat
  | .result => 0
  | .status => 1
  | .count => 2
  | .busy => 3
  | .cur => 4
  | .last => 5
  | .hi => 6
  | .eps => 7
  | .budget => 8

/-- R27: a register's width in bits. -/
def regWidth : Reg → Nat
  | .result => 32
  | .status => 3
  | .count => 64
  | .busy => 1
  | .cur => 32
  | .last => 32
  | .hi => 32
  | .eps => 64
  | .budget => 64

/-- The contents of a register, as a number. -/
def regValue (s : State) : Reg → Nat
  | .result => s.result.toNat
  | .status => s.status.toNat
  | .count => s.count.toNat
  | .busy => s.busy.toNat
  | .cur => s.cur.toNat
  | .last => s.last.toNat
  | .hi => s.hi.toNat
  | .eps => s.eps.toNat
  | .budget => s.budget.toNat

/-- R27: what the host reads of a register: the first four, and nothing of the hidden five. Reading changes nothing (R44). -/
def hostRead (s : State) (r : Reg) : Option Nat :=
  if regNumber r ≤ 3 then some (regValue s r) else none

/-- R33: everything the host can observe directly after a step. -/
structure Observation where
  result   : Word
  status   : BitVec 3
  count    : Word64
  busy     : Bool
  cmdReady : Bool
  sample   : Option Word
  deriving DecidableEq, Repr

/-- R32, R33: the output ports. `sample_data` is looked at only while `sample_valid` is 1 (93 U6). -/
def observe (s : State) : Observation where
  result   := s.result
  status   := s.status
  count    := s.count
  busy     := s.busy
  cmdReady := cmdReady s
  sample   := s.sampleOut

end Sys2Proof.Machine
end

