-- ==== Sys2Proof/Machine/Stepper.lean ====
section
/-! DEFINITION. The ULP Stepper (41_step): the datapath `next32`, region by region, and the command STEP. -/

namespace Sys2Proof.Machine

/-- R91: what the stepper answers. -/
inductive Next where
  | value (r : Word)
  | atInfinity
  | invalidInput
  deriving DecidableEq, Repr

/-- R93: increment the mantissa, exponent unchanged. -/
def stepPosInc (p : Word) : Next := .value (pack 0#1 (exponentOf p) (mantissaOf p + 1#23))

/-- R94: the mantissa's carry: mantissa 0, exponent plus 1. -/
def stepPosCarry (p : Word) : Next := .value (pack 0#1 (exponentOf p + 1#8) 0#23)

/-- R97: −0 steps to +0 exactly. -/
def stepNegZero : Next := .value 0x00000000#32

/-- R98: decrement the mantissa, sign held at 1. -/
def stepNegDec (p : Word) : Next := .value (pack 1#1 (exponentOf p) (mantissaOf p - 1#23))

/-- R99: the mantissa's borrow: mantissa all ones, exponent minus 1. -/
def stepNegBorrow (p : Word) : Next := .value (pack 1#1 (exponentOf p - 1#8) mantMax)

/-- R92: the next-larger representable value, by the operand's class. POS_MAX: R96. NANINF: R101. -/
def next32 (p : Word) : Next :=
  match classify p with
  | .nanInf => .invalidInput
  | .posMax => .atInfinity
  | .negZero => stepNegZero
  | .posCarry => stepPosCarry p
  | .negBorrow => stepNegBorrow p
  | .posInc => stepPosInc p
  | .negDec => stepNegDec p

/-- R102: the 31-bit formulation of the same function, one adder across the exponent and mantissa fields. The spec states it for
finite patterns. -/
def next32Adder (p : Word) : Next :=
  if signOf p = 0#1 then
    if magOf p = 0x7F7FFFFF#31 then .atInfinity else .value (0#1 ++ (magOf p + 1#31))
  else if magOf p = 0#31 then .value 0x00000000#32
  else .value (1#1 ++ (magOf p - 1#31))

/-- R105: the one-step completion of STEP, by what the stepper answers. -/
def completeStep (a : Word) (s : State) : State :=
  match next32 a with
  | .value r => writeResult r s
  | .atInfinity => raiseError .atInfinity s
  | .invalidInput => raiseError .invalidInput s

/-- `STEP a` (R105, R106). Presented while BUSY it is not accepted and changes nothing (70 R163). -/
def execStep (a : Word) (s : State) : Host.Outcome State Fault Refusal :=
  if s.busy then .next s
  else if s.resetSeen then .next (completeStep a s)
  else .refused .beforeFirstReset

end Sys2Proof.Machine
end

