-- ==== Sys2Proof/Machine/Enumerator.lean ====
section
/-! DEFINITION. The Range Enumerator (42_enum): acceptance of ENUM and the tick. -/

namespace Sys2Proof.Machine

/-- R113: the lower bound, by the total order. -/
def lowerBound (a b : Word) : Word := if key a ≤ key b then a else b

/-- R113: the upper bound, by the total order. -/
def upperBound (a b : Word) : Word := if key a ≤ key b then b else a

/-- R112: a bound that is NaN or infinite completes the command with InvalidInput. -/
def rejectEnum (s : State) : State := raiseError .invalidInput (clearCount s)

/-- R114: the enumeration begins; nothing is counted or sampled yet. -/
def beginEnum (a b : Word) (eps budget : Word64) (s : State) : State :=
  startRun (clearCount (latchRange (lowerBound a b) (upperBound a b) eps budget s))

/-- The acceptance step of `ENUM a, b, eps, budget` (R111 to R114). The ticks that follow are `tick`. Presented while BUSY it is
not accepted and changes nothing (70 R163). -/
def execEnum (a b : Word) (eps budget : Word64) (s : State) : Host.Outcome State Fault Refusal :=
  if s.busy then .next s
  else if s.resetSeen then
    if isFinite a && isFinite b then .next (beginEnum a b eps budget s) else .next (rejectEnum s)
  else .refused .beforeFirstReset

/-- R117: the budget check that opens a tick. -/
def budgetSpent (s : State) : Bool := s.budget != 0#64 && s.count == s.budget

/-- R119: report the current value when it lies far enough from the last reported one. -/
def sampleCurrent (s : State) : State :=
  if exceeds s.cur s.last s.eps then writeLast s.cur (emitSample s.cur s) else s

/-- R120, R121, R122: end at HI, or move on to the next value. The AtInfinity ending is the defence R122 keeps. -/
def endOrAdvance (s : State) : Host.Outcome State Fault Refusal :=
  if s.cur = s.hi then .next (finishRun s)
  else match next32 s.cur with
    | .value r => .next (advanceTo r s)
    | .atInfinity => .next (raiseError .atInfinity s)
    | .invalidInput => .fault .cursorNotFinite

/-- R120: one tick, whole. -/
def tick (s : State) : Host.Outcome State Fault Refusal :=
  if budgetSpent s then .next (raiseError .budgetExceeded s)
  else if isFinite s.cur && isFinite s.last then endOrAdvance (sampleCurrent (countOne s))
  else .fault .cursorNotFinite

end Sys2Proof.Machine
end

