-- ==== Sys2Proof/Machine/Dispatch.lean ====
section
/-! DEFINITION. One arm per command: the meaning of each in the step that presents it. -/

namespace Sys2Proof.Machine

def exec (i : Instr) (s : State) : Host.Outcome State Fault Refusal :=
  match i with
  | .step a => Sys2Proof.Machine.execStep a s
  | .enum a b eps budget => Sys2Proof.Machine.execEnum a b eps budget s

end Sys2Proof.Machine
end

