-- ==== Sys2Proof/Machine/Step.lean ====
section
/-! DEFINITION. The architectural step (70_reset_and_hazards R175) and the presentation of a command word. -/

namespace Sys2Proof.Machine

/-- R175: a reset step; else a tick while BUSY, whatever the command port presents; else the acceptance of the presented
command; else an idle step. -/
def step (s : State) : Host.Outcome State Fault Refusal :=
  if (hostInput s).rst then .next (resetUnit (beginStep s))
  else if s.busy then tick (beginStep s)
  else if (hostInput s).cmdValid then exec (decode (hostInput s).cmd) (beginStep s)
  else .next (beginStep s)

/-- The host presents the command word `w` in the very next step. A step accepts what is presented when BUSY is 0 (R30), so BUSY
is cleared. A number that is no command word (30_encoding R56) cannot be presented, and nothing is. Log entry 8. -/
def State.withFetchWord (s : State) (_nbits w : Nat) : State :=
  { s with
    busy := false
    moves := (if isCommandWord w then present (splitWord (BitVec.ofNat 193 w)) else presentNothing) :: s.moves.tail }

end Sys2Proof.Machine
end

