-- ==== Sys2Proof/Machine/Units.lean ====
section
/-! DEFINITION. Several units side by side (60_exceptions R156): each has its own state, ports and order of steps, and they share
nothing. -/

namespace Sys2Proof.Machine

/-- R156: unit `k` of a system makes its next step; the others do not move. DESIGN CHOICE, on two points where the spec is silent:
when the unit's own step stops (a refusal before its first reset, or the fault), this step of the system stops with it, so the
other units have no next state there (SAFE: the model stops; another unit's step, made instead, is not hindered); and a number
that names no unit moves nothing (SAFE: no unit changes). Log entry 14. -/
def stepUnit (k : Nat) (us : List State) : Host.Outcome (List State) Fault Refusal :=
  match us[k]? with
  | none => .next us
  | some s =>
    match step s with
    | .next t => .next (us.set k t)
    | .fault f => .fault f
    | .refused r => .refused r

end Sys2Proof.Machine
end

