-- ==== Sys2Proof/Machine/ClosedForm.lean ====
section
/-! DEFINITION. The closed form of an enumeration (42_enum R123), written without the tick: how many values a range has, how
many are counted, in how many ticks, and which are samples. The statements compare the small-step machine with it. -/

namespace Sys2Proof.Machine

/-- R103: the value reached from `p` by `n` steps of the stepper, if it takes them all. -/
def walk (p : Word) : Nat → Option Word
  | 0 => some p
  | n + 1 =>
    match walk p n with
    | none => none
    | some v =>
      match next32 v with
      | .value r => some r
      | .atInfinity => none
      | .invalidInput => none

/-- R123: N, the number of values from the lower bound to the upper inclusive. -/
def rangeSize (a b : Word) : Nat := (key (upperBound a b) - key (lowerBound a b) + 1).toNat

/-- R123: the budget covers the whole range. -/
def budgetCovers (a b : Word) (budget : Word64) : Bool :=
  budget == 0#64 || decide (rangeSize a b ≤ budget.toNat)

/-- R123: K, the final COUNT. -/
def finalCount (a b : Word) (budget : Word64) : Nat :=
  if budgetCovers a b budget then rangeSize a b else budget.toNat

/-- R123: how many ticks the enumeration takes. -/
def tickTotal (a b : Word) (budget : Word64) : Nat :=
  if budgetCovers a b budget then rangeSize a b else budget.toNat + 1

/-- R123: the samples among the `k` values that begin at `v`, when the last reported value is `l`. -/
def samplesFrom (eps : Word64) : Nat → Word → Word → List Word
  | 0, _, _ => []
  | k + 1, v, l =>
    let reported := if exceeds v l eps then v else l
    let later :=
      match next32 v with
      | .value r => samplesFrom eps k r reported
      | .atInfinity => []
      | .invalidInput => []
    if exceeds v l eps then v :: later else later

end Sys2Proof.Machine
end

