-- ==== Sys2Proof/Safety.lean ====
section
/-! DEFINITION. What counts as a good state and a safe run, in the terms the statements use. -/

namespace Sys2Proof.Machine

/-- The next state of an outcome, where it has one. -/
def nextState? (o : Host.Outcome State Fault Refusal) : Option State :=
  match o with
  | .next s => some s
  | .fault _ => none
  | .refused _ => none

/-- `n` architectural steps, stopping at the first fault or refusal. -/
def run : Nat → State → Host.Outcome State Fault Refusal
  | 0, s => .next s
  | n + 1, s =>
    match step s with
    | .next t => run n t
    | .fault f => .fault f
    | .refused r => .refused r

/-- The host does not assert reset in any of the next `n` steps (70 R170: "in which `rst` stays 0"). -/
abbrev NoReset (n : Nat) (s : State) : Prop := ∀ m ∈ s.moves.take n, m.rst = false

/-- R34 (a): RESULT, CUR, LAST and HI hold finite patterns. -/
abbrev FinitePatterns (s : State) : Prop :=
  isFinite s.result = true ∧ isFinite s.cur = true ∧ isFinite s.last = true ∧ isFinite s.hi = true

/-- R34 (b): STATUS holds one of the codes 0 to 4. -/
abbrev LegalStatus (s : State) : Prop := s.status.toNat ≤ 4

/-- R34 (c): while BUSY, STATUS is NONE. -/
abbrev BusyShowsNone (s : State) : Prop := s.busy = true → s.status = 0#3

/-- R34 (d): while BUSY, LAST, CUR and HI lie in this order. -/
abbrev CursorInRange (s : State) : Prop :=
  s.busy = true → key s.last ≤ key s.cur ∧ key s.cur ≤ key s.hi

/-- R34 (e): while BUSY under a budget, no more values are counted than the budget allows. -/
abbrev CountWithinBudget (s : State) : Prop :=
  s.busy = true → s.budget ≠ 0#64 → s.count.toNat ≤ s.budget.toNat

/-- R34: the state invariants. -/
structure Inv (s : State) : Prop where
  finitePatterns    : FinitePatterns s
  legalStatus       : LegalStatus s
  busyShowsNone     : BusyShowsNone s
  cursorInRange     : CursorInRange s
  countWithinBudget : CountWithinBudget s

/-- R130: COUNT is at most the number of finite patterns, and while BUSY at most the number of those below CUR. -/
abbrev CountBounded (s : State) : Prop :=
  s.count.toNat ≤ 4278190080 ∧ (s.busy = true → (s.count.toNat : Int) ≤ key s.cur + 2139095040)

/-- R47 (a), R127 (f): the trace rises strictly in the total order, and while BUSY lies below CUR. -/
abbrev SamplesRise (s : State) : Prop :=
  s.samples.Pairwise (fun p q => key p < key q) ∧
  (∀ v ∈ s.samples, isFinite v = true) ∧
  (s.busy = true → ∀ v ∈ s.samples, key v < key s.cur)

/-- R127 (e), its upper half: no sample lies above the upper bound. HI keeps the bound after the last tick. -/
abbrev SamplesBelowHi (s : State) : Prop := ∀ v ∈ s.samples, key v ≤ key s.hi

/-- R127 (e), its lower half, for a lower bound `lo`: no sample lies below it, nor does the value the next tick will count. -/
abbrev SamplesAbove (lo : Word) (s : State) : Prop :=
  key lo ≤ key s.cur ∧ ∀ v ∈ s.samples, key lo ≤ key v

/-- R31, R112, R114, R160: the step about to be made empties COUNT and the trace: it is a reset step, or it accepts an ENUM. -/
abbrev ClearsTrace (s : State) : Prop :=
  (hostInput s).rst = true ∨ (s.busy = false ∧ (hostInput s).cmdValid = true ∧ (hostInput s).cmd.op = 1#1)

/-- R155: STATUS is NONE in a ready unit only while nothing has run since reset: every register still has its reset value. -/
abbrev NoneMeansFresh (s : State) : Prop :=
  s.busy = false → s.status = 0#3 →
    s.result = 0#32 ∧ s.count = 0#64 ∧ s.cur = 0#32 ∧ s.last = 0#32 ∧ s.hi = 0#32 ∧
    s.eps = 0#64 ∧ s.budget = 0#64 ∧ s.samples = []

/-- What the host observes of an outcome (R33). -/
def observeOutcome (o : Host.Outcome State Fault Refusal) : Host.Outcome Observation Fault Refusal :=
  match o with
  | .next s => .next (observe s)
  | .fault f => .fault f
  | .refused r => .refused r

end Sys2Proof.Machine
end

