-- ==== Sys2Proof/Certificates/Slice0/Obligations.lean ====
section
/-! DEFINITION. The statements about the model, each a proposition from the spec's rules. -/

open Sys2Proof Sys2Proof.Machine

/-! ## Commands and their encoding (30_encoding) -/

/-- R56 to R58: no bit of an encoding is dropped: decoding the command word of any command gives that command back. -/
def Obligations.DecodeOfEncodeIsTheCommand : Prop :=
  ∀ i : Instr, decodeTableWord 200 (encodeWord i).toNat = some i

/-- R56: the decoder looks at bit 192 of the command word only, and takes every operand from its own bits. -/
def Obligations.CommandWordFieldsDecode : Prop :=
  ∀ w : Nat, w < 2 ^ 193 →
    (w &&& 2 ^ 192 = 0 → decodeTableWord 200 w = some (.step (BitVec.ofNat 32 (w / 2 ^ 160)))) ∧
    (w &&& 2 ^ 192 = 2 ^ 192 → decodeTableWord 200 w =
      some (.enum (BitVec.ofNat 32 (w / 2 ^ 160)) (BitVec.ofNat 32 (w / 2 ^ 128)) (BitVec.ofNat 64 (w / 2 ^ 64))
        (BitVec.ofNat 64 w))) ∧
    (w &&& 2 ^ 192 = 0 ∨ w &&& 2 ^ 192 = 2 ^ 192)

/-- The model's choice (log entry 9): a number with a bit where the command port has no wire is no command word. -/
def Obligations.WordsWiderThanThePortAreRefused : Prop :=
  ∀ w : Nat, 2 ^ 193 ≤ w → decodeTableWord 200 w = none

/-- A few command words of 95_test_vectors, written out from the encoding, decode to the commands they stand for. -/
def Obligations.WrittenWordsDecode : Prop :=
  decodeTableWord 200 0x0_3F800000_00000000_0000000000000000_0000000000000000 = some (.step 0x3F800000#32) ∧
  decodeTableWord 200 0x1_3F800000_3F800004_3E45798EE2308C3A_0000000000000004 =
    some (.enum 0x3F800000#32 0x3F800004#32 0x3E45798EE2308C3A#64 4#64)

/-- R57: STEP takes its operand from `cmd_a`, and no value of the other operand fields changes the outcome of the step that
presents it. -/
def Obligations.StepIgnoresItsOtherFields : Prop :=
  (∀ (a b : Word) (eps budget : Word64), decode ⟨0#1, a, b, eps, budget⟩ = .step a) ∧
  ∀ (s : State) (rest : List HostMove) (rst cmdValid : Bool) (a b b' : Word) (eps eps' budget budget' : Word64),
    step { s with moves := ⟨rst, cmdValid, ⟨0#1, a, b, eps, budget⟩⟩ :: rest } =
    step { s with moves := ⟨rst, cmdValid, ⟨0#1, a, b', eps', budget'⟩⟩ :: rest }

/-! ## The architectural step (70_reset_and_hazards) -/

/-- R175, R30: in a step that accepts a command, `step` is `exec` of the decoded command, on the state that has used up this
step's inputs, shows no sample yet and has drawn a new free value. The second clause, on a word placed by `withFetchWord` (which
clears BUSY and takes the place of the next host move), is the model's choice, log entry 8, and no rule of the spec. -/
def Obligations.StepRunsTheDecodedCommand : Prop :=
  (∀ s : State, (hostInput s).rst = false → s.busy = false → (hostInput s).cmdValid = true →
    step s = exec (decode (hostInput s).cmd)
      { s with moves := s.moves.tail, sampleOut := none, draws := s.draws + 1 }) ∧
  ∀ (s : State) (w : Nat) (i : Instr), decodeTableWord 200 w = some i →
    step (s.withFetchWord 200 w) =
      exec i { s with busy := false, moves := s.moves.tail, sampleOut := none, draws := s.draws + 1 }

/-- R175: exactly one kind of step happens, chosen by `rst`, BUSY and `cmd_valid` in this order. -/
def Obligations.WhichStepHappens : Prop :=
  ∀ s : State,
    ((hostInput s).rst = true → step s = .next (resetUnit (beginStep s))) ∧
    ((hostInput s).rst = false → s.busy = true → step s = tick (beginStep s)) ∧
    ((hostInput s).rst = false → s.busy = false → (hostInput s).cmdValid = true →
      step s = exec (decode (hostInput s).cmd) (beginStep s)) ∧
    ((hostInput s).rst = false → s.busy = false → (hostInput s).cmdValid = false →
      step s = .next (beginStep s))

/-- R159, R160, R35: a step with `rst = 1` leaves every register at its reset value, whatever the state before it and
whatever else is presented: no command is accepted, no tick happens, no sample is emitted. -/
def Obligations.ResetStepLeavesResetValues : Prop :=
  ∀ s : State, (hostInput s).rst = true → ∃ t, step s = .next t ∧
    t.result = 0x00000000#32 ∧ t.status = 0#3 ∧ t.busy = false ∧ t.count = 0#64 ∧
    t.cur = 0x00000000#32 ∧ t.last = 0x00000000#32 ∧ t.hi = 0x00000000#32 ∧
    t.eps = 0x0000000000000000#64 ∧ t.budget = 0#64 ∧ t.samples = [] ∧
    cmdReady t = true ∧ sampleValid t = false ∧ t.resetSeen = true ∧ t.moves = s.moves.tail

/-- R163: while BUSY a presented command is not accepted: `cmd_ready` is 0, and the step is the one the unit makes when nothing is
presented. That `exec` of a command on a BUSY unit answers the unchanged state is the model's choice, log entry 7: `step` never
makes that call. -/
def Obligations.BusyUnitAcceptsNoCommand : Prop :=
  ∀ s : State, s.busy = true →
    cmdReady s = false ∧
    (∀ i : Instr, exec i s = .next s) ∧
    ∀ (rest : List HostMove) (c : Command),
      step { s with moves := present c :: rest } = step { s with moves := presentNothing :: rest }

/-- 93 U7 (log entry 4): a command accepted by a unit that was never reset is given no meaning; a reset step mends that. -/
def Obligations.CommandBeforeFirstResetIsRefused : Prop :=
  (∀ (i : Instr) (s : State), s.busy = false → s.resetSeen = false → exec i s = .refused .beforeFirstReset) ∧
  ∀ (rest : List HostMove) (cmdValid : Bool) (c : Command),
    ∃ t, step (State.powerUp (⟨true, cmdValid, c⟩ :: rest)) = .next t ∧ t.resetSeen = true

/-- R153: an idle unit to which nothing is presented makes a step that changes no register. -/
def Obligations.IdleStepChangesNothing : Prop :=
  ∀ s : State, (hostInput s).rst = false → s.busy = false → (hostInput s).cmdValid = false →
    step s = .next { s with moves := s.moves.tail, sampleOut := none, draws := s.draws + 1 }

/-! ## Invariants -/

/-- R34, R35: the state after reset meets the invariants. -/
def Obligations.ResetStateMeetsTheInvariants : Prop :=
  Inv State.reset ∧ CountBounded State.reset ∧ SamplesRise State.reset ∧ SamplesBelowHi State.reset ∧
  NoneMeansFresh State.reset

/-- R34: the invariants (a) to (e) hold after a reset step and every step keeps them. -/
def Obligations.EveryStepKeepsTheInvariants : Prop :=
  (∀ s t : State, (hostInput s).rst = true → step s = .next t → Inv t) ∧
  ∀ s t : State, Inv s → step s = .next t → Inv t

/-- R174, R175: from a state that meets the invariants, once the unit has been reset, every input has a defined effect: the
step stops with no fault and no refusal. -/
def Obligations.StepNeverStopsAfterReset : Prop :=
  ∀ s : State, Inv s → s.resetSeen = true → ∃ t, step s = .next t ∧ Inv t ∧ t.resetSeen = true

/-- R122: under the invariants no tick ends an enumeration with AtInfinity. -/
def Obligations.EnumNeverEndsAtInfinity : Prop :=
  ∀ s t : State, Inv s → s.busy = true → step s = .next t → t.status ≠ codeOf .atInfinity

/-- R130: COUNT stays at or below the number of finite patterns, so its increment never wraps. -/
def Obligations.CountNeverWraps : Prop :=
  ∀ s t : State, CountBounded s → step s = .next t →
    CountBounded t ∧ (countOne s).count.toNat = s.count.toNat + 1

/-- R155: every step keeps that a ready unit shows NONE only while every register still has its reset value. -/
def Obligations.NoneInAReadyUnitMeansFresh : Prop :=
  ∀ s t : State, NoneMeansFresh s → step s = .next t → NoneMeansFresh t

/-- R127 (f), R47 (a): every step keeps that the samples rise strictly in the total order and are finite patterns. R127 (e): every
step keeps that none lies above HI, and every step that empties nothing keeps that none lies below a bound that CUR does not lie
below (the acceptance puts CUR at the lower bound, `EnumStarts`). For a bound that is no finite pattern the last clause speaks of
the model's totalisation of the key, log entry 18. -/
def Obligations.SamplesRiseInTheTotalOrder : Prop :=
  (∀ s t : State, SamplesRise s → step s = .next t → SamplesRise t) ∧
  (∀ s t : State, Inv s → SamplesBelowHi s → step s = .next t → SamplesBelowHi t) ∧
  ∀ (lo : Word) (s t : State), ¬ ClearsTrace s → SamplesAbove lo s → step s = .next t → SamplesAbove lo t

/-! ## Fields, classes and order (40_reinterpret_fields) -/

/-- R75: both directions of the reinterpretation are the identity on all patterns, NaN patterns among them. -/
def Obligations.ReinterpretationIsTheIdentity : Prop :=
  (∀ p : Word, bitsOf p = p ∧ floatOf p = p ∧ floatOf (bitsOf p) = p ∧ bitsOf (floatOf p) = p) ∧
  bitsOf 0x3F800000#32 = 0x3F800000#32

/-- R79: the field view and the pattern view are bijective; the real-number view is not, at the two zeros. -/
def Obligations.FieldViewIsBijective : Prop :=
  (∀ p : Word, pack (unpack p).1 (unpack p).2.1 (unpack p).2.2 = p) ∧
  (∀ (S : BitVec 1) (E : BitVec 8) (M : BitVec 23), unpack (pack S E M) = (S, E, M)) ∧
  real32 0x00000000#32 = 0 ∧ real32 0x80000000#32 = 0

/-- R81: the seven classes by their fields; a pattern has exactly one, because `classify` is a function. -/
def Obligations.ClassesByFields : Prop :=
  ∀ p : Word,
    (classify p = .nanInf ↔ exponentOf p = 255#8) ∧
    (classify p = .posMax ↔ signOf p = 0#1 ∧ exponentOf p = 254#8 ∧ mantissaOf p = 0x7FFFFF#23) ∧
    (classify p = .posMax ↔ p = 0x7F7FFFFF#32) ∧
    (classify p = .negZero ↔ signOf p = 1#1 ∧ exponentOf p = 0#8 ∧ mantissaOf p = 0#23) ∧
    (classify p = .negZero ↔ p = 0x80000000#32) ∧
    (classify p = .posCarry ↔ signOf p = 0#1 ∧ (exponentOf p).toNat ≤ 253 ∧ mantissaOf p = 0x7FFFFF#23) ∧
    (classify p = .negBorrow ↔
      signOf p = 1#1 ∧ 1 ≤ (exponentOf p).toNat ∧ (exponentOf p).toNat ≤ 254 ∧ mantissaOf p = 0#23) ∧
    (classify p = .posInc ↔
      signOf p = 0#1 ∧ (exponentOf p).toNat ≤ 254 ∧ (mantissaOf p).toNat < 0x7FFFFF) ∧
    (classify p = .negDec ↔
      signOf p = 1#1 ∧ (exponentOf p).toNat ≤ 254 ∧ 0 < (mantissaOf p).toNat)

/-- R62: the mask and match table, first hit wins, selects the class of the fields. -/
def Obligations.MaskTableSelectsTheClass : Prop :=
  ∀ p : Word, classifyByMask p = some (classify p)

/-- R88: the key turns the total order into integer order; it is injective, fills its interval, and is what the bit operation
gives. R88 defines the key of finite patterns only: where the first three clauses range over NaN and infinite patterns they speak
of the model's totalisation, log entry 18, and of no rule. -/
def Obligations.KeyIsTheTotalOrder : Prop :=
  (∀ p : Word, signOf p = 0#1 → key p = (p.extractLsb' 0 31).toNat) ∧
  (∀ p : Word, signOf p = 1#1 → key p = -1 - (p.extractLsb' 0 31).toNat) ∧
  (∀ p : Word, key p = (keyBits p).toInt) ∧
  (∀ p q : Word, isFinite p = true → isFinite q = true → (LeTotal p q ↔ key p ≤ key q)) ∧
  (∀ p q : Word, isFinite p = true → isFinite q = true → key p = key q → p = q) ∧
  (∀ n : Int, (-2139095040 ≤ n ∧ n ≤ 2139095039) ↔ ∃ p : Word, isFinite p = true ∧ key p = n)

/-- R90: on finite patterns the key order and the order of the reals agree, but for the two zeros. -/
def Obligations.KeyOrderAgreesWithTheReals : Prop :=
  ∀ p q : Word, isFinite p = true → isFinite q = true →
    (key p < key q → real32 p ≤ real32 q ∧
      (real32 p = real32 q → p = 0x80000000#32 ∧ q = 0x00000000#32)) ∧
    (real32 p < real32 q → key p < key q)

/-! ## The stepper (41_step) -/

/-- R93, R94, R98, R99, R101: the field-wise regions of `next32`. -/
def Obligations.NextByRegion : Prop :=
  ∀ (E : BitVec 8) (M : BitVec 23),
    (E.toNat ≤ 254 → M.toNat < 0x7FFFFF → next32 (pack 0#1 E M) = .value (pack 0#1 E (M + 1#23))) ∧
    (E.toNat ≤ 253 → next32 (pack 0#1 E 0x7FFFFF#23) = .value (pack 0#1 (E + 1#8) 0#23)) ∧
    (E.toNat ≤ 254 → 0 < M.toNat → next32 (pack 1#1 E M) = .value (pack 1#1 E (M - 1#23))) ∧
    (1 ≤ E.toNat → E.toNat ≤ 254 → next32 (pack 1#1 E 0#23) = .value (pack 1#1 (E - 1#8) 0x7FFFFF#23)) ∧
    (∀ S : BitVec 1, next32 (pack S 255#8 M) = .invalidInput)

/-- R96: the exponent ceiling: the largest finite pattern, and it alone, answers AtInfinity; no answer has exponent 255; the
most negative finite pattern steps normally. -/
def Obligations.ExponentCeiling : Prop :=
  (∀ p : Word, next32 p = .atInfinity ↔ p = 0x7F7FFFFF#32) ∧
  (∀ p r : Word, next32 p = .value r → exponentOf r ≠ 255#8) ∧
  next32 0xFF7FFFFF#32 = .value 0xFF7FFFFE#32

/-- R97: −0 steps to +0 exactly; it is the only operand whose sign the step changes, and the only one whose real value it
keeps; nothing steps from +0 to −0. -/
def Obligations.NegativeZeroStepsToPositiveZero : Prop :=
  next32 0x80000000#32 = .value 0x00000000#32 ∧
  (∀ p r : Word, next32 p = .value r → signOf r ≠ signOf p → p = 0x80000000#32) ∧
  (∀ p r : Word, next32 p = .value r → real32 r = real32 p → p = 0x80000000#32) ∧
  real32 0x00000000#32 = real32 0x80000000#32 ∧
  next32 0x00000000#32 = .value 0x00000001#32

/-- R102: the 31-bit adder is the same function as the field-wise regions, on every finite pattern. -/
def Obligations.AdderFormulationIsTheSameFunction : Prop :=
  ∀ p : Word, isFinite p = true → next32 p = next32Adder p

/-- R103: a step raises the key by one; so it gives the immediate successor, and iterating it from the lowest finite pattern
visits every finite pattern exactly once, in total order, in 4278190079 steps. -/
def Obligations.NextIsTheSuccessor : Prop :=
  (∀ p : Word, isFinite p = true → p ≠ 0x7F7FFFFF#32 → ∃ r : Word,
    next32 p = .value r ∧ isFinite r = true ∧ key r = key p + 1 ∧ LeTotal p r ∧ p ≠ r ∧
    ∀ q : Word, isFinite q = true → ¬ (LeTotal p q ∧ q ≠ p ∧ LeTotal q r ∧ q ≠ r)) ∧
  (∀ p : Word, isFinite p = true → ∃ n : Nat, n ≤ 4278190079 ∧ walk 0xFF7FFFFF#32 n = some p ∧
    (n : Int) = key p + 2139095040 ∧ ∀ m : Nat, walk 0xFF7FFFFF#32 m = some p → m = n) ∧
  walk 0xFF7FFFFF#32 4278190079 = some 0x7F7FFFFF#32

/-- R104: what the stepper answers is finite, has the operand's sign but for −0, and is greater as a real number but for −0. -/
def Obligations.StepperOutputs : Prop :=
  ∀ p r : Word, next32 p = .value r →
    isFinite r = true ∧
    (p ≠ 0x80000000#32 → signOf r = signOf p) ∧
    (p ≠ 0x80000000#32 → real32 p < real32 r) ∧
    (p = 0x80000000#32 → real32 p = 0 ∧ real32 r = 0)

/-! ## The sample test (42_enum R115, R116) -/

/-- R115: for a finite epsilon the sample test is the strict comparison of the exact real difference with the exact real value
of epsilon. -/
def Obligations.SampleTestIsTheExactRealComparison : Prop :=
  ∀ (cur last : Word) (eps : Word64), isFinite cur = true → isFinite last = true → exponentOf64 eps ≠ 2047#11 →
    (exceeds cur last eps = true ↔ real64 eps < |real32 cur - real32 last|)

/-- R116: every other epsilon: NaN and +infinity never exceed, −infinity and finite negatives always do, a zero means any
difference at all. -/
def Obligations.SampleTestOnSpecialEpsilons : Prop :=
  ∀ (cur last : Word) (eps : Word64), isFinite cur = true → isFinite last = true →
    (exponentOf64 eps = 2047#11 → fractionOf64 eps ≠ 0#52 → exceeds cur last eps = false) ∧
    (eps = 0x7FF0000000000000#64 → exceeds cur last eps = false) ∧
    (eps = 0xFFF0000000000000#64 → exceeds cur last eps = true) ∧
    (exponentOf64 eps ≠ 2047#11 → real64 eps < 0 → exceeds cur last eps = true) ∧
    (eps = 0x0000000000000000#64 ∨ eps = 0x8000000000000000#64 →
      (exceeds cur last eps = true ↔ real32 cur ≠ real32 last))

/-! ## STEP (41_step R105, R106) -/

/-- R105: what STEP does in a ready unit: on a value RESULT and STATUS OK; at the largest finite pattern STATUS AtInfinity; on a
NaN or infinity STATUS InvalidInput. Nothing else is written, and RESULT is kept on an error. -/
def Obligations.StepCompletes : Prop :=
  ∀ (a : Word) (s : State), s.busy = false → s.resetSeen = true →
    (∀ r : Word, next32 a = .value r → exec (.step a) s = .next { s with result := r, status := 1#3 }) ∧
    (a = 0x7F7FFFFF#32 → exec (.step a) s = .next { s with status := 3#3 }) ∧
    (exponentOf a = 255#8 → exec (.step a) s = .next { s with status := 2#3 }) ∧
    (isFinite a = true → a ≠ 0x7F7FFFFF#32 → ∃ r : Word, next32 a = .value r)

/-- R106: STEP leaves COUNT, CUR, LAST, HI, EPS, BUDGET, SAMPLES and BUSY as they were and emits no sample; and STATUS, and
RESULT when STATUS is OK, depend on the operand alone. -/
def Obligations.StepTouchesNothingElse : Prop :=
  (∀ (a : Word) (s t : State), exec (.step a) s = .next t →
    t.count = s.count ∧ t.cur = s.cur ∧ t.last = s.last ∧ t.hi = s.hi ∧ t.eps = s.eps ∧
    t.budget = s.budget ∧ t.samples = s.samples ∧ t.busy = s.busy ∧ t.sampleOut = s.sampleOut ∧
    t.moves = s.moves ∧ t.draws = s.draws ∧ t.resetSeen = s.resetSeen) ∧
  ∀ (a : Word) (s s' t t' : State), s.busy = false → s'.busy = false →
    exec (.step a) s = .next t → exec (.step a) s' = .next t' →
    t.status = t'.status ∧ (t.status = 1#3 → t.result = t'.result)

/-! ## Accepting ENUM (42_enum R111 to R114) -/

/-- R112: an ENUM with a NaN or infinite bound completes at once with InvalidInput, COUNT 0 and no samples; CUR, LAST, HI, EPS,
BUDGET and RESULT keep their contents. -/
def Obligations.EnumRejectsABadBound : Prop :=
  ∀ (a b : Word) (eps budget : Word64) (s : State), s.busy = false → s.resetSeen = true →
    exponentOf a = 255#8 ∨ exponentOf b = 255#8 →
    exec (.enum a b eps budget) s = .next { s with status := 2#3, count := 0#64, samples := [] }

/-- R113: the bounds are ordered by the key; −0 is below +0 whichever way round they come, and equal bounds stay. -/
def Obligations.BoundsAreOrderedByKey : Prop :=
  (∀ a b : Word, isFinite a = true → isFinite b = true →
    (key a ≤ key b → lowerBound a b = a ∧ upperBound a b = b) ∧
    (¬ key a ≤ key b → lowerBound a b = b ∧ upperBound a b = a) ∧
    key (lowerBound a b) ≤ key (upperBound a b)) ∧
  (∀ a : Word, lowerBound a a = a ∧ upperBound a a = a) ∧
  lowerBound 0x80000000#32 0x00000000#32 = 0x80000000#32 ∧ upperBound 0x80000000#32 0x00000000#32 = 0x00000000#32 ∧
  lowerBound 0x00000000#32 0x80000000#32 = 0x80000000#32 ∧ upperBound 0x00000000#32 0x80000000#32 = 0x00000000#32

/-- R114: an ENUM with finite bounds starts: CUR and LAST at the lower bound, HI at the upper, EPS and BUDGET latched, COUNT 0,
no samples, STATUS NONE, BUSY 1, RESULT kept. Nothing is counted or sampled in this step. -/
def Obligations.EnumStarts : Prop :=
  ∀ (a b : Word) (eps budget : Word64) (s : State), s.busy = false → s.resetSeen = true →
    isFinite a = true → isFinite b = true →
    exec (.enum a b eps budget) s = .next
      { s with cur := lowerBound a b, last := lowerBound a b, hi := upperBound a b, eps := eps, budget := budget,
               count := 0#64, samples := [], status := 0#3, busy := true }

/-- R127 (a): ENUM a, b and ENUM b, a are the same command to the unit. -/
def Obligations.OrderOfBoundsIsIrrelevant : Prop :=
  ∀ (a b : Word) (eps budget : Word64) (s : State),
    exec (.enum a b eps budget) s = exec (.enum b a eps budget) s

/-- The frame of an ENUM acceptance (R112, R114): RESULT and the sample port are untouched, and a rejected one leaves the hidden
registers too; one that is not accepted because the unit is BUSY leaves everything (log entry 7). -/
def Obligations.EnumAcceptanceFrame : Prop :=
  ∀ (a b : Word) (eps budget : Word64) (s t : State), exec (.enum a b eps budget) s = .next t →
    t.result = s.result ∧ t.sampleOut = s.sampleOut ∧ t.moves = s.moves ∧ t.draws = s.draws ∧
    t.resetSeen = s.resetSeen ∧
    (isFinite a = false ∨ isFinite b = false →
      t.cur = s.cur ∧ t.last = s.last ∧ t.hi = s.hi ∧ t.eps = s.eps ∧ t.budget = s.budget ∧ t.busy = s.busy) ∧
    (s.busy = true → t = s)

/-- R64, R138: exactly the commands with an illegal operand, NaN or infinity, complete with InvalidInput. -/
def Obligations.IllFormedOperandsCompleteWithInvalidInput : Prop :=
  ∀ (i : Instr) (s : State), s.busy = false → s.resetSeen = true →
    ∃ t, exec i s = .next t ∧ (t.status = codeOf .invalidInput ↔ i.wellFormed = false) ∧
      (i.wellFormed = false → t.busy = false ∧ t.result = s.result)

/-! ## The tick (42_enum R117 to R122) -/

/-- R117: with a budget, a tick that finds COUNT at the budget ends with BudgetExceeded and changes nothing else; without a
budget, or below it, no tick does; and an enumeration of exactly BUDGET values ends with OK. -/
def Obligations.TickBudgetCheck : Prop :=
  ∀ s : State, s.busy = true → (hostInput s).rst = false →
    (s.budget ≠ 0#64 → s.count = s.budget →
      step s = .next { s with status := 4#3, busy := false,
                              moves := s.moves.tail, sampleOut := none, draws := s.draws + 1 }) ∧
    (∀ t, s.budget = 0#64 ∨ s.count ≠ s.budget → s.status ≠ 4#3 → step s = .next t → t.status ≠ 4#3) ∧
    (s.budget ≠ 0#64 → s.count + 1#64 = s.budget → s.cur = s.hi → isFinite s.cur = true → isFinite s.last = true →
      ∃ t, step s = .next t ∧ t.busy = false ∧ t.status = 1#3 ∧ t.count = s.budget)

/-- R120, R118: the tick, whole. It ends with BudgetExceeded when the budget is spent; otherwise it counts, samples when CUR lies
further from LAST than epsilon, and ends with OK at HI, or moves CUR to the next value, or ends with AtInfinity if there is
none. -/
def Obligations.TickWhole : Prop :=
  ∀ s : State, s.busy = true → (hostInput s).rst = false →
    (s.budget ≠ 0#64 ∧ s.count = s.budget →
      step s = .next { s with status := 4#3, busy := false,
                              moves := s.moves.tail, sampleOut := none, draws := s.draws + 1 }) ∧
    (s.budget = 0#64 ∨ s.count ≠ s.budget → isFinite s.cur = true → isFinite s.last = true →
      ∃ t, step s = .next t ∧
        t.count = s.count + 1#64 ∧
        (exceeds s.cur s.last s.eps = true →
          t.samples = s.samples ++ [s.cur] ∧ t.last = s.cur ∧ sampleValid t = true ∧ sampleData t = s.cur) ∧
        (exceeds s.cur s.last s.eps = false →
          t.samples = s.samples ∧ t.last = s.last ∧ sampleValid t = false) ∧
        (s.cur = s.hi → t.status = 1#3 ∧ t.busy = false ∧ t.cur = s.cur) ∧
        (s.cur ≠ s.hi → ∀ r, next32 s.cur = .value r → t.cur = r ∧ t.status = s.status ∧ t.busy = true) ∧
        (s.cur ≠ s.hi → next32 s.cur = .atInfinity → t.status = 3#3 ∧ t.busy = false ∧ t.cur = s.cur) ∧
        next32 s.cur ≠ .invalidInput ∧
        t.result = s.result ∧ t.hi = s.hi ∧ t.eps = s.eps ∧ t.budget = s.budget)

/-- Log entry 6: where the spec says that it cannot occur, a tick that would count from a CUR or LAST with exponent 255 stops. -/
def Obligations.TickStopsOnlyOnNonFiniteCursor : Prop :=
  ∀ (s : State) (f : Fault), step s = .fault f ↔
    f = .cursorNotFinite ∧ (hostInput s).rst = false ∧ s.busy = true ∧ (s.budget = 0#64 ∨ s.count ≠ s.budget) ∧
      (isFinite s.cur = false ∨ isFinite s.last = false)

/-- R18, R24 to R26: no tick writes RESULT, HI, EPS or BUDGET, or the model's own fields beyond the step's use of them; a tick
leaves CUR at its value or moves it to the stepper's answer, and leaves LAST or moves it to CUR. -/
def Obligations.TickFrame : Prop :=
  ∀ s t : State, s.busy = true → (hostInput s).rst = false → step s = .next t →
    t.result = s.result ∧ t.hi = s.hi ∧ t.eps = s.eps ∧ t.budget = s.budget ∧
    t.moves = s.moves.tail ∧ t.draws = s.draws + 1 ∧ t.resetSeen = s.resetSeen ∧
    (t.cur = s.cur ∨ next32 s.cur = .value t.cur) ∧ (t.last = s.last ∨ t.last = s.cur)

/-- R128: neither the acceptance of an ENUM nor any tick writes RESULT. -/
def Obligations.EnumNeverWritesResult : Prop :=
  (∀ (a b : Word) (eps budget : Word64) (s t : State), exec (.enum a b eps budget) s = .next t → t.result = s.result) ∧
  ∀ s t : State, tick s = .next t → t.result = s.result

/-- R31: the sample port shows a sample in exactly the ticks that emit one, and the trace grows by that sample alone. A reset step
or the acceptance of an ENUM empties COUNT and the trace; every other step that shows no sample keeps the trace, and COUNT moves
in counting ticks only, by one. -/
def Obligations.SamplePortShowsTheTickSample : Prop :=
  ∀ s t : State, step s = .next t →
    (sampleValid t = true ↔
      (hostInput s).rst = false ∧ s.busy = true ∧ (s.budget = 0#64 ∨ s.count ≠ s.budget) ∧
        exceeds s.cur s.last s.eps = true) ∧
    (sampleValid t = true → sampleData t = s.cur ∧ t.samples = s.samples ++ [s.cur]) ∧
    (ClearsTrace s → t.samples = [] ∧ t.count = 0#64) ∧
    (¬ ClearsTrace s → sampleValid t = false → t.samples = s.samples) ∧
    (¬ ClearsTrace s →
      (s.busy = true ∧ (s.budget = 0#64 ∨ s.count ≠ s.budget) → t.count = s.count + 1#64) ∧
      (s.busy = false ∨ (s.budget ≠ 0#64 ∧ s.count = s.budget) → t.count = s.count))

/-- R167: while an ENUM runs, COUNT rises by at most one per step and never falls. -/
def Obligations.CountRisesByAtMostOne : Prop :=
  ∀ s t : State, CountBounded s → s.busy = true → (hostInput s).rst = false → step s = .next t →
    t.count.toNat = s.count.toNat ∨ t.count.toNat = s.count.toNat + 1

/-! ## Whole enumerations (42_enum R123 to R127) -/

/-- R123: the closed form. From a ready unit, an ENUM with finite bounds that no reset interrupts stays BUSY through its ticks and
is over after exactly their number: with OK and COUNT = N when the budget is absent or covers the range, with BudgetExceeded
and COUNT = budget otherwise; the trace is the closed form's samples, every one of them between the bounds (R127 (e)), and
RESULT is kept. -/
def Obligations.EnumClosedForm : Prop :=
  ∀ (a b : Word) (eps budget : Word64) (s : State) (rest : List HostMove),
    s.busy = false → s.resetSeen = true → isFinite a = true → isFinite b = true →
    s.moves = present (encode (.enum a b eps budget)) :: rest → NoReset (tickTotal a b budget + 1) s →
    (∀ k, k < tickTotal a b budget → ∃ u, run (k + 1) s = .next u ∧ u.busy = true) ∧
    ∃ t, run (tickTotal a b budget + 1) s = .next t ∧ t.busy = false ∧
      t.status = codeOf (if budgetCovers a b budget then .ok else .budgetExceeded) ∧
      t.count.toNat = finalCount a b budget ∧
      t.samples = samplesFrom eps (finalCount a b budget) (lowerBound a b) (lowerBound a b) ∧
      (∀ v ∈ t.samples, key (lowerBound a b) ≤ key v ∧ key v ≤ key (upperBound a b)) ∧
      t.result = s.result ∧
      1 ≤ rangeSize a b ∧ rangeSize a b ≤ 4278190080

/-- R125: every running enumeration ends: with no reset, after at most as many steps as there are values from CUR to HI, and,
under a budget, at most as many as the budget has left plus one. -/
def Obligations.EveryEnumTerminates : Prop :=
  ∀ s : State, Inv s → s.busy = true →
    NoReset (key s.hi - key s.cur + 1).toNat s →
    ∃ (k : Nat) (t : State), run k s = .next t ∧ t.busy = false ∧
      (k : Int) ≤ key s.hi - key s.cur + 1 ∧
      (s.budget ≠ 0#64 → k ≤ s.budget.toNat - s.count.toNat + 1)

/-- R127 (b): ENUM v, v counts 1 for every finite v, and samples nothing when epsilon is not negative, or is NaN. -/
def Obligations.SingleValueCountsOne : Prop :=
  ∀ (v : Word) (eps : Word64) (s : State) (rest : List HostMove),
    s.busy = false → s.resetSeen = true → isFinite v = true →
    s.moves = present (encode (.enum v v eps 0#64)) :: rest → NoReset 2 s →
    ∃ t, run 2 s = .next t ∧ t.busy = false ∧ t.status = 1#3 ∧ t.count = 1#64 ∧
      (signOf64 eps = 0#1 ∨ eps = 0x8000000000000000#64 ∨ (exponentOf64 eps = 2047#11 ∧ fractionOf64 eps ≠ 0#52) →
        t.samples = [])

/-- R127 (c), (d): a range from −x to x has 2 · mag x + 2 values, all counted when there is no budget; the walk from −x meets −0
and then +0 among them, as two distinct values. The range from −0 to +0 has two. -/
def Obligations.RangesAcrossZero : Prop :=
  (∀ x : Word, signOf x = 0#1 → isFinite x = true → x ≠ 0#32 →
    rangeSize (x ||| 0x80000000#32) x = 2 * (magOf x).toNat + 2 ∧
    finalCount (x ||| 0x80000000#32) x 0#64 = 2 * (magOf x).toNat + 2 ∧
    lowerBound (x ||| 0x80000000#32) x = x ||| 0x80000000#32 ∧ upperBound (x ||| 0x80000000#32) x = x ∧
    walk (x ||| 0x80000000#32) (magOf x).toNat = some 0x80000000#32 ∧
    walk (x ||| 0x80000000#32) ((magOf x).toNat + 1) = some 0x00000000#32 ∧
    walk (x ||| 0x80000000#32) (2 * (magOf x).toNat + 1) = some x) ∧
  rangeSize 0x80000000#32 0x00000000#32 = 2 ∧ finalCount 0x80000000#32 0x00000000#32 0#64 = 2 ∧
  walk 0x80000000#32 1 = some 0x00000000#32

/-! ## What the host sees (10_state R27, R32, R33) -/

/-- R32: the output ports show the registers. -/
def Obligations.OutputPortsShowTheRegisters : Prop :=
  ∀ s : State, (observe s).cmdReady = !s.busy ∧ (observe s).busy = s.busy ∧ (observe s).status = s.status ∧
    (observe s).result = s.result ∧ (observe s).count = s.count

/-- R27: the host reads RESULT, STATUS, COUNT and BUSY, whole, and none of the hidden five registers. -/
def Obligations.HostReadsFourRegisters : Prop :=
  ∀ s : State,
    hostRead s .result = some s.result.toNat ∧ hostRead s .status = some s.status.toNat ∧
    hostRead s .count = some s.count.toNat ∧ hostRead s .busy = some s.busy.toNat ∧
    hostRead s .cur = none ∧ hostRead s .last = none ∧ hostRead s .hi = none ∧
    hostRead s .eps = none ∧ hostRead s .budget = none ∧
    ∀ r : Reg, regValue s r < 2 ^ regWidth r

/-- R33, R169: nothing that CUR, LAST, HI, EPS, BUDGET or the trace were left at by one command can be seen in what follows: two
ready units that show the host the same answer every later sequence of the same host moves alike. -/
def Obligations.HiddenRegistersDoNotLeak : Prop :=
  ∀ (n : Nat) (s t : State), s.busy = false → t.busy = false → observe s = observe t →
    s.moves = t.moves → s.resetSeen = t.resetSeen →
    observeOutcome (run n s) = observeOutcome (run n t)

/-- R144: raising an error writes the kind's code to STATUS and clears BUSY, and writes nothing else. -/
def Obligations.RaisingAnError : Prop :=
  ∀ s : State,
    raiseError .invalidInput s = { s with status := 2#3, busy := false } ∧
    raiseError .atInfinity s = { s with status := 3#3, busy := false } ∧
    raiseError .budgetExceeded s = { s with status := 4#3, busy := false }

/-- R156: units share nothing: a step of one leaves every other as it was, and does not depend on any other. That a system is a
list of states of which one moves at a time (`stepUnit`) is the model's choice, log entry 14. -/
def Obligations.UnitsShareNothing : Prop :=
  (∀ (k : Nat) (us vs : List State), stepUnit k us = .next vs →
    vs.length = us.length ∧ ∀ j : Nat, j ≠ k → vs[j]? = us[j]?) ∧
  ∀ (k : Nat) (us us' vs vs' : List State), us[k]? = us'[k]? → stepUnit k us = .next vs → stepUnit k us' = .next vs' →
    vs[k]? = vs'[k]?
end

