-- ==== Sys2Proof/Laws/Fields.lean ====
section
/-! SUPPORT. The field functions of 40_reinterpret_fields as arithmetic on the pattern's number, so that later proofs about
fields, classes and keys are linear arithmetic. -/

namespace Sys2Proof.Machine

/-- R77: the sign is the pattern's number divided by 2^31. -/
theorem signOf_toNat (p : Word) : (signOf p).toNat = p.toNat / 2147483648 := by
  have h := p.isLt
  simp [signOf, Nat.shiftRight_eq_div_pow, Nat.and_one_is_mod]
  omega

/-- R77: the exponent is what lies above the mantissa, without the sign. -/
theorem exponentOf_toNat (p : Word) : (exponentOf p).toNat = p.toNat / 8388608 % 256 := by
  have h : ∀ n : Nat, n &&& 255 = n % 256 := fun n => Nat.and_two_pow_sub_one_eq_mod n 8
  simp [exponentOf, Nat.shiftRight_eq_div_pow, h]

/-- R77: the mantissa is the low 23 bits. -/
theorem mantissaOf_toNat (p : Word) : (mantissaOf p).toNat = p.toNat % 8388608 := by
  have h : ∀ n : Nat, n &&& 8388607 = n % 8388608 := fun n => Nat.and_two_pow_sub_one_eq_mod n 23
  simp [mantissaOf, h]

/-- R89: the magnitude is the pattern's number without the sign bit. -/
theorem magOf_toNat (p : Word) : (magOf p).toNat = p.toNat % 2147483648 := by
  simp [magOf]

/-- R78: packing places the three fields on disjoint bits, so it is a sum. -/
theorem pack_toNat (S : BitVec 1) (E : BitVec 8) (M : BitVec 23) :
    (pack S E M).toNat = S.toNat * 2147483648 + E.toNat * 8388608 + M.toNat := by
  have hS := S.isLt
  have hE := E.isLt
  have hM := M.isLt
  have h1 : S.toNat <<< 31 ||| (E.toNat <<< 23 ||| M.toNat) = S.toNat <<< 31 + (E.toNat <<< 23 + M.toNat) := by
    rw [← Nat.shiftLeft_add_eq_or_of_lt (i := 23) (by omega), ← Nat.shiftLeft_add_eq_or_of_lt (i := 31)]
    rw [Nat.shiftLeft_eq]; omega
  simp only [pack, BitVec.toNat_or, BitVec.toNat_shiftLeft, BitVec.toNat_setWidth]
  rw [Nat.mod_eq_of_lt (a := S.toNat) (by omega), Nat.mod_eq_of_lt (a := E.toNat) (by omega),
    Nat.mod_eq_of_lt (a := M.toNat) (by omega), Nat.mod_eq_of_lt (a := S.toNat <<< 31) (by rw [Nat.shiftLeft_eq]; omega),
    Nat.mod_eq_of_lt (a := E.toNat <<< 23) (by rw [Nat.shiftLeft_eq]; omega), Nat.or_assoc, h1,
    Nat.shiftLeft_eq, Nat.shiftLeft_eq]
  omega

/-- R14: finite patterns by their number. -/
theorem isFinite_iff (p : Word) : isFinite p = true ↔ p.toNat / 8388608 % 256 ≠ 255 := by
  rw [← exponentOf_toNat]
  simp [isFinite, expSpecial, ← BitVec.toNat_inj]

/-- R88: the key of a sign-0 pattern is its number, that of a sign-1 pattern counts down from −1. -/
theorem key_eq (p : Word) :
    key p = if p.toNat < 2147483648 then (p.toNat : Int) else 2147483647 - (p.toNat : Int) := by
  have h := p.isLt
  simp only [key, ← BitVec.toNat_inj, signOf_toNat, magOf_toNat, BitVec.toNat_ofNat]
  split <;> split <;> omega

end Sys2Proof.Machine
end

