-- ==== Sys2Proof/Laws/State.lean ====
section
/-! SUPPORT. What each named register write leaves in each field of the state. -/

namespace Sys2Proof.Machine

/-! ### the start of a step -/

@[simp] theorem beginStep_result (s : State) : (beginStep s).result = s.result := rfl
@[simp] theorem beginStep_status (s : State) : (beginStep s).status = s.status := rfl
@[simp] theorem beginStep_busy (s : State) : (beginStep s).busy = s.busy := rfl
@[simp] theorem beginStep_count (s : State) : (beginStep s).count = s.count := rfl
@[simp] theorem beginStep_cur (s : State) : (beginStep s).cur = s.cur := rfl
@[simp] theorem beginStep_last (s : State) : (beginStep s).last = s.last := rfl
@[simp] theorem beginStep_hi (s : State) : (beginStep s).hi = s.hi := rfl
@[simp] theorem beginStep_eps (s : State) : (beginStep s).eps = s.eps := rfl
@[simp] theorem beginStep_budget (s : State) : (beginStep s).budget = s.budget := rfl
@[simp] theorem beginStep_samples (s : State) : (beginStep s).samples = s.samples := rfl
@[simp] theorem beginStep_sampleOut (s : State) : (beginStep s).sampleOut = none := rfl
@[simp] theorem beginStep_moves (s : State) : (beginStep s).moves = s.moves.tail := rfl
@[simp] theorem beginStep_draws (s : State) : (beginStep s).draws = s.draws + 1 := rfl
@[simp] theorem beginStep_resetSeen (s : State) : (beginStep s).resetSeen = s.resetSeen := rfl

/-! ### STEP's completion (41 R105) -/

@[simp] theorem writeResult_result (r : Word) (s : State) : (writeResult r s).result = r := rfl
@[simp] theorem writeResult_status (r : Word) (s : State) : (writeResult r s).status = codeOf .ok := rfl
@[simp] theorem writeResult_busy (r : Word) (s : State) : (writeResult r s).busy = s.busy := rfl
@[simp] theorem writeResult_count (r : Word) (s : State) : (writeResult r s).count = s.count := rfl
@[simp] theorem writeResult_cur (r : Word) (s : State) : (writeResult r s).cur = s.cur := rfl
@[simp] theorem writeResult_last (r : Word) (s : State) : (writeResult r s).last = s.last := rfl
@[simp] theorem writeResult_hi (r : Word) (s : State) : (writeResult r s).hi = s.hi := rfl
@[simp] theorem writeResult_eps (r : Word) (s : State) : (writeResult r s).eps = s.eps := rfl
@[simp] theorem writeResult_budget (r : Word) (s : State) : (writeResult r s).budget = s.budget := rfl
@[simp] theorem writeResult_samples (r : Word) (s : State) : (writeResult r s).samples = s.samples := rfl
@[simp] theorem writeResult_sampleOut (r : Word) (s : State) : (writeResult r s).sampleOut = s.sampleOut := rfl
@[simp] theorem writeResult_moves (r : Word) (s : State) : (writeResult r s).moves = s.moves := rfl
@[simp] theorem writeResult_draws (r : Word) (s : State) : (writeResult r s).draws = s.draws := rfl
@[simp] theorem writeResult_resetSeen (r : Word) (s : State) : (writeResult r s).resetSeen = s.resetSeen := rfl

/-! ### raising an error (60 R144) -/

@[simp] theorem raiseError_result (k : ErrorKind) (s : State) : (raiseError k s).result = s.result := rfl
@[simp] theorem raiseError_status (k : ErrorKind) (s : State) : (raiseError k s).status = codeOf (errorStatus k) := rfl
@[simp] theorem raiseError_busy (k : ErrorKind) (s : State) : (raiseError k s).busy = false := rfl
@[simp] theorem raiseError_count (k : ErrorKind) (s : State) : (raiseError k s).count = s.count := rfl
@[simp] theorem raiseError_cur (k : ErrorKind) (s : State) : (raiseError k s).cur = s.cur := rfl
@[simp] theorem raiseError_last (k : ErrorKind) (s : State) : (raiseError k s).last = s.last := rfl
@[simp] theorem raiseError_hi (k : ErrorKind) (s : State) : (raiseError k s).hi = s.hi := rfl
@[simp] theorem raiseError_eps (k : ErrorKind) (s : State) : (raiseError k s).eps = s.eps := rfl
@[simp] theorem raiseError_budget (k : ErrorKind) (s : State) : (raiseError k s).budget = s.budget := rfl
@[simp] theorem raiseError_samples (k : ErrorKind) (s : State) : (raiseError k s).samples = s.samples := rfl
@[simp] theorem raiseError_sampleOut (k : ErrorKind) (s : State) : (raiseError k s).sampleOut = s.sampleOut := rfl
@[simp] theorem raiseError_moves (k : ErrorKind) (s : State) : (raiseError k s).moves = s.moves := rfl
@[simp] theorem raiseError_draws (k : ErrorKind) (s : State) : (raiseError k s).draws = s.draws := rfl
@[simp] theorem raiseError_resetSeen (k : ErrorKind) (s : State) : (raiseError k s).resetSeen = s.resetSeen := rfl

/-! ### the normal end (42 R121) -/

@[simp] theorem finishRun_result (s : State) : (finishRun s).result = s.result := rfl
@[simp] theorem finishRun_status (s : State) : (finishRun s).status = codeOf .ok := rfl
@[simp] theorem finishRun_busy (s : State) : (finishRun s).busy = false := rfl
@[simp] theorem finishRun_count (s : State) : (finishRun s).count = s.count := rfl
@[simp] theorem finishRun_cur (s : State) : (finishRun s).cur = s.cur := rfl
@[simp] theorem finishRun_last (s : State) : (finishRun s).last = s.last := rfl
@[simp] theorem finishRun_hi (s : State) : (finishRun s).hi = s.hi := rfl
@[simp] theorem finishRun_eps (s : State) : (finishRun s).eps = s.eps := rfl
@[simp] theorem finishRun_budget (s : State) : (finishRun s).budget = s.budget := rfl
@[simp] theorem finishRun_samples (s : State) : (finishRun s).samples = s.samples := rfl
@[simp] theorem finishRun_sampleOut (s : State) : (finishRun s).sampleOut = s.sampleOut := rfl
@[simp] theorem finishRun_moves (s : State) : (finishRun s).moves = s.moves := rfl
@[simp] theorem finishRun_draws (s : State) : (finishRun s).draws = s.draws := rfl
@[simp] theorem finishRun_resetSeen (s : State) : (finishRun s).resetSeen = s.resetSeen := rfl

/-! ### the clearing of COUNT and SAMPLES (42 R112, R114) -/

@[simp] theorem clearCount_result (s : State) : (clearCount s).result = s.result := rfl
@[simp] theorem clearCount_status (s : State) : (clearCount s).status = s.status := rfl
@[simp] theorem clearCount_busy (s : State) : (clearCount s).busy = s.busy := rfl
@[simp] theorem clearCount_count (s : State) : (clearCount s).count = 0#64 := rfl
@[simp] theorem clearCount_cur (s : State) : (clearCount s).cur = s.cur := rfl
@[simp] theorem clearCount_last (s : State) : (clearCount s).last = s.last := rfl
@[simp] theorem clearCount_hi (s : State) : (clearCount s).hi = s.hi := rfl
@[simp] theorem clearCount_eps (s : State) : (clearCount s).eps = s.eps := rfl
@[simp] theorem clearCount_budget (s : State) : (clearCount s).budget = s.budget := rfl
@[simp] theorem clearCount_samples (s : State) : (clearCount s).samples = [] := rfl
@[simp] theorem clearCount_sampleOut (s : State) : (clearCount s).sampleOut = s.sampleOut := rfl
@[simp] theorem clearCount_moves (s : State) : (clearCount s).moves = s.moves := rfl
@[simp] theorem clearCount_draws (s : State) : (clearCount s).draws = s.draws := rfl
@[simp] theorem clearCount_resetSeen (s : State) : (clearCount s).resetSeen = s.resetSeen := rfl

/-! ### the latching of the range (42 R114) -/

@[simp] theorem latchRange_result (lo hi : Word) (e g : Word64) (s : State) : (latchRange lo hi e g s).result = s.result := rfl
@[simp] theorem latchRange_status (lo hi : Word) (e g : Word64) (s : State) : (latchRange lo hi e g s).status = s.status := rfl
@[simp] theorem latchRange_busy (lo hi : Word) (e g : Word64) (s : State) : (latchRange lo hi e g s).busy = s.busy := rfl
@[simp] theorem latchRange_count (lo hi : Word) (e g : Word64) (s : State) : (latchRange lo hi e g s).count = s.count := rfl
@[simp] theorem latchRange_cur (lo hi : Word) (e g : Word64) (s : State) : (latchRange lo hi e g s).cur = lo := rfl
@[simp] theorem latchRange_last (lo hi : Word) (e g : Word64) (s : State) : (latchRange lo hi e g s).last = lo := rfl
@[simp] theorem latchRange_hi (lo hi : Word) (e g : Word64) (s : State) : (latchRange lo hi e g s).hi = hi := rfl
@[simp] theorem latchRange_eps (lo hi : Word) (e g : Word64) (s : State) : (latchRange lo hi e g s).eps = e := rfl
@[simp] theorem latchRange_budget (lo hi : Word) (e g : Word64) (s : State) : (latchRange lo hi e g s).budget = g := rfl
@[simp] theorem latchRange_samples (lo hi : Word) (e g : Word64) (s : State) : (latchRange lo hi e g s).samples = s.samples := rfl
@[simp] theorem latchRange_sampleOut (lo hi : Word) (e g : Word64) (s : State) : (latchRange lo hi e g s).sampleOut = s.sampleOut := rfl
@[simp] theorem latchRange_moves (lo hi : Word) (e g : Word64) (s : State) : (latchRange lo hi e g s).moves = s.moves := rfl
@[simp] theorem latchRange_draws (lo hi : Word) (e g : Word64) (s : State) : (latchRange lo hi e g s).draws = s.draws := rfl
@[simp] theorem latchRange_resetSeen (lo hi : Word) (e g : Word64) (s : State) : (latchRange lo hi e g s).resetSeen = s.resetSeen := rfl

/-! ### the start of a run (42 R114) -/

@[simp] theorem startRun_result (s : State) : (startRun s).result = s.result := rfl
@[simp] theorem startRun_status (s : State) : (startRun s).status = codeOf .none := rfl
@[simp] theorem startRun_busy (s : State) : (startRun s).busy = true := rfl
@[simp] theorem startRun_count (s : State) : (startRun s).count = s.count := rfl
@[simp] theorem startRun_cur (s : State) : (startRun s).cur = s.cur := rfl
@[simp] theorem startRun_last (s : State) : (startRun s).last = s.last := rfl
@[simp] theorem startRun_hi (s : State) : (startRun s).hi = s.hi := rfl
@[simp] theorem startRun_eps (s : State) : (startRun s).eps = s.eps := rfl
@[simp] theorem startRun_budget (s : State) : (startRun s).budget = s.budget := rfl
@[simp] theorem startRun_samples (s : State) : (startRun s).samples = s.samples := rfl
@[simp] theorem startRun_sampleOut (s : State) : (startRun s).sampleOut = s.sampleOut := rfl
@[simp] theorem startRun_moves (s : State) : (startRun s).moves = s.moves := rfl
@[simp] theorem startRun_draws (s : State) : (startRun s).draws = s.draws := rfl
@[simp] theorem startRun_resetSeen (s : State) : (startRun s).resetSeen = s.resetSeen := rfl

/-! ### counting (42 R118) -/

@[simp] theorem countOne_result (s : State) : (countOne s).result = s.result := rfl
@[simp] theorem countOne_status (s : State) : (countOne s).status = s.status := rfl
@[simp] theorem countOne_busy (s : State) : (countOne s).busy = s.busy := rfl
@[simp] theorem countOne_count (s : State) : (countOne s).count = s.count + 1#64 := rfl
@[simp] theorem countOne_cur (s : State) : (countOne s).cur = s.cur := rfl
@[simp] theorem countOne_last (s : State) : (countOne s).last = s.last := rfl
@[simp] theorem countOne_hi (s : State) : (countOne s).hi = s.hi := rfl
@[simp] theorem countOne_eps (s : State) : (countOne s).eps = s.eps := rfl
@[simp] theorem countOne_budget (s : State) : (countOne s).budget = s.budget := rfl
@[simp] theorem countOne_samples (s : State) : (countOne s).samples = s.samples := rfl
@[simp] theorem countOne_sampleOut (s : State) : (countOne s).sampleOut = s.sampleOut := rfl
@[simp] theorem countOne_moves (s : State) : (countOne s).moves = s.moves := rfl
@[simp] theorem countOne_draws (s : State) : (countOne s).draws = s.draws := rfl
@[simp] theorem countOne_resetSeen (s : State) : (countOne s).resetSeen = s.resetSeen := rfl

/-! ### emitting a sample (00 R10) -/

@[simp] theorem emitSample_result (v : Word) (s : State) : (emitSample v s).result = s.result := rfl
@[simp] theorem emitSample_status (v : Word) (s : State) : (emitSample v s).status = s.status := rfl
@[simp] theorem emitSample_busy (v : Word) (s : State) : (emitSample v s).busy = s.busy := rfl
@[simp] theorem emitSample_count (v : Word) (s : State) : (emitSample v s).count = s.count := rfl
@[simp] theorem emitSample_cur (v : Word) (s : State) : (emitSample v s).cur = s.cur := rfl
@[simp] theorem emitSample_last (v : Word) (s : State) : (emitSample v s).last = s.last := rfl
@[simp] theorem emitSample_hi (v : Word) (s : State) : (emitSample v s).hi = s.hi := rfl
@[simp] theorem emitSample_eps (v : Word) (s : State) : (emitSample v s).eps = s.eps := rfl
@[simp] theorem emitSample_budget (v : Word) (s : State) : (emitSample v s).budget = s.budget := rfl
@[simp] theorem emitSample_samples (v : Word) (s : State) : (emitSample v s).samples = s.samples ++ [v] := rfl
@[simp] theorem emitSample_sampleOut (v : Word) (s : State) : (emitSample v s).sampleOut = some v := rfl
@[simp] theorem emitSample_moves (v : Word) (s : State) : (emitSample v s).moves = s.moves := rfl
@[simp] theorem emitSample_draws (v : Word) (s : State) : (emitSample v s).draws = s.draws := rfl
@[simp] theorem emitSample_resetSeen (v : Word) (s : State) : (emitSample v s).resetSeen = s.resetSeen := rfl

/-! ### the write of LAST (42 R119) -/

@[simp] theorem writeLast_result (v : Word) (s : State) : (writeLast v s).result = s.result := rfl
@[simp] theorem writeLast_status (v : Word) (s : State) : (writeLast v s).status = s.status := rfl
@[simp] theorem writeLast_busy (v : Word) (s : State) : (writeLast v s).busy = s.busy := rfl
@[simp] theorem writeLast_count (v : Word) (s : State) : (writeLast v s).count = s.count := rfl
@[simp] theorem writeLast_cur (v : Word) (s : State) : (writeLast v s).cur = s.cur := rfl
@[simp] theorem writeLast_last (v : Word) (s : State) : (writeLast v s).last = v := rfl
@[simp] theorem writeLast_hi (v : Word) (s : State) : (writeLast v s).hi = s.hi := rfl
@[simp] theorem writeLast_eps (v : Word) (s : State) : (writeLast v s).eps = s.eps := rfl
@[simp] theorem writeLast_budget (v : Word) (s : State) : (writeLast v s).budget = s.budget := rfl
@[simp] theorem writeLast_samples (v : Word) (s : State) : (writeLast v s).samples = s.samples := rfl
@[simp] theorem writeLast_sampleOut (v : Word) (s : State) : (writeLast v s).sampleOut = s.sampleOut := rfl
@[simp] theorem writeLast_moves (v : Word) (s : State) : (writeLast v s).moves = s.moves := rfl
@[simp] theorem writeLast_draws (v : Word) (s : State) : (writeLast v s).draws = s.draws := rfl
@[simp] theorem writeLast_resetSeen (v : Word) (s : State) : (writeLast v s).resetSeen = s.resetSeen := rfl

/-! ### the advance of CUR (42 R120) -/

@[simp] theorem advanceTo_result (r : Word) (s : State) : (advanceTo r s).result = s.result := rfl
@[simp] theorem advanceTo_status (r : Word) (s : State) : (advanceTo r s).status = s.status := rfl
@[simp] theorem advanceTo_busy (r : Word) (s : State) : (advanceTo r s).busy = s.busy := rfl
@[simp] theorem advanceTo_count (r : Word) (s : State) : (advanceTo r s).count = s.count := rfl
@[simp] theorem advanceTo_cur (r : Word) (s : State) : (advanceTo r s).cur = r := rfl
@[simp] theorem advanceTo_last (r : Word) (s : State) : (advanceTo r s).last = s.last := rfl
@[simp] theorem advanceTo_hi (r : Word) (s : State) : (advanceTo r s).hi = s.hi := rfl
@[simp] theorem advanceTo_eps (r : Word) (s : State) : (advanceTo r s).eps = s.eps := rfl
@[simp] theorem advanceTo_budget (r : Word) (s : State) : (advanceTo r s).budget = s.budget := rfl
@[simp] theorem advanceTo_samples (r : Word) (s : State) : (advanceTo r s).samples = s.samples := rfl
@[simp] theorem advanceTo_sampleOut (r : Word) (s : State) : (advanceTo r s).sampleOut = s.sampleOut := rfl
@[simp] theorem advanceTo_moves (r : Word) (s : State) : (advanceTo r s).moves = s.moves := rfl
@[simp] theorem advanceTo_draws (r : Word) (s : State) : (advanceTo r s).draws = s.draws := rfl
@[simp] theorem advanceTo_resetSeen (r : Word) (s : State) : (advanceTo r s).resetSeen = s.resetSeen := rfl

/-! ### the reset step's writes (70 R160) -/

@[simp] theorem resetUnit_result (s : State) : (resetUnit s).result = State.reset.result := rfl
@[simp] theorem resetUnit_status (s : State) : (resetUnit s).status = State.reset.status := rfl
@[simp] theorem resetUnit_busy (s : State) : (resetUnit s).busy = State.reset.busy := rfl
@[simp] theorem resetUnit_count (s : State) : (resetUnit s).count = State.reset.count := rfl
@[simp] theorem resetUnit_cur (s : State) : (resetUnit s).cur = State.reset.cur := rfl
@[simp] theorem resetUnit_last (s : State) : (resetUnit s).last = State.reset.last := rfl
@[simp] theorem resetUnit_hi (s : State) : (resetUnit s).hi = State.reset.hi := rfl
@[simp] theorem resetUnit_eps (s : State) : (resetUnit s).eps = State.reset.eps := rfl
@[simp] theorem resetUnit_budget (s : State) : (resetUnit s).budget = State.reset.budget := rfl
@[simp] theorem resetUnit_samples (s : State) : (resetUnit s).samples = State.reset.samples := rfl
@[simp] theorem resetUnit_sampleOut (s : State) : (resetUnit s).sampleOut = State.reset.sampleOut := rfl
@[simp] theorem resetUnit_moves (s : State) : (resetUnit s).moves = s.moves := rfl
@[simp] theorem resetUnit_draws (s : State) : (resetUnit s).draws = s.draws := rfl
@[simp] theorem resetUnit_resetSeen (s : State) : (resetUnit s).resetSeen = State.reset.resetSeen := rfl

end Sys2Proof.Machine
end

