-- ==== Sys2Proof/Laws/Stepper.lean ====
section
/-! SUPPORT. Everything the stepper can answer, and everything STEP can do. -/

namespace Sys2Proof.Machine

/-- R92 to R101: whatever the stepper answers, by the operand's number. -/
theorem next32_cases (p : Word) :
    (p.toNat < 2139095039 ∧ next32 p = .value (p + 1#32)) ∨
    (p = 0x7F7FFFFF#32 ∧ next32 p = .atInfinity) ∨
    (p = 0x80000000#32 ∧ next32 p = .value 0#32) ∨
    (2147483648 < p.toNat ∧ p.toNat < 4286578688 ∧ next32 p = .value (p - 1#32)) ∨
    (p.toNat / 8388608 % 256 = 255 ∧ next32 p = .invalidInput) := by
  have hp := p.isLt
  have hs := signOf_toNat p
  have he := exponentOf_toNat p
  have hm := mantissaOf_toNat p
  simp only [next32, classify, stepNegZero, stepPosCarry, stepNegBorrow, stepPosInc, stepNegDec, expSpecial, expMaxFinite,
    mantMax, ← BitVec.toNat_inj, hs, he, hm, BitVec.toNat_ofNat]
  split_ifs with h1 h2 h3 h4 h5 h6 <;> simp [pack_toNat, he, hm, ← BitVec.toNat_inj] <;> omega

/-- R91: what is known when the stepper answers a value: the operand is finite, is not the largest, and the value's number is
one more on the positive side, one less on the negative side, and 0 after −0. -/
theorem next32_value {p r : Word} (h : next32 p = .value r) :
    (p.toNat < 2139095039 ∧ r.toNat = p.toNat + 1) ∨ (p.toNat = 2147483648 ∧ r.toNat = 0) ∨
    (2147483648 < p.toNat ∧ p.toNat < 4286578688 ∧ r.toNat = p.toNat - 1) := by
  have hp := p.isLt
  rcases next32_cases p with ⟨h1, h2⟩ | ⟨h1, h2⟩ | ⟨h1, h2⟩ | ⟨h1, h1', h2⟩ | ⟨h1, h2⟩ <;>
    simp only [h2, Next.value.injEq, reduceCtorEq] at h <;> subst h
  · exact .inl ⟨h1, by rw [BitVec.toNat_add, BitVec.toNat_ofNat]; omega⟩
  · exact .inr (.inl ⟨by rw [h1]; rfl, rfl⟩)
  · exact .inr (.inr ⟨h1, h1', by rw [BitVec.toNat_sub, BitVec.toNat_ofNat]; omega⟩)

/-- R105: whatever STEP can do in a ready unit. -/
theorem completeStep_cases (a : Word) (s : State) :
    (∃ r, next32 a = .value r ∧ completeStep a s = writeResult r s) ∨
    (next32 a = .atInfinity ∧ completeStep a s = raiseError .atInfinity s) ∨
    (next32 a = .invalidInput ∧ completeStep a s = raiseError .invalidInput s) := by
  unfold completeStep
  cases h : next32 a <;> simp

/-- R105, 70 R163: if STEP answers a next state, it was accepted by a unit that had been reset, or not accepted at all. -/
theorem execStep_next {a : Word} {s t : State} (h : execStep a s = .next t) :
    (s.busy = true ∧ t = s) ∨ (s.busy = false ∧ s.resetSeen = true ∧ t = completeStep a s) := by
  unfold execStep at h
  cases hb : s.busy <;> cases hr : s.resetSeen <;> simp_all

end Sys2Proof.Machine
end

