-- ==== Sys2Proof/Laws/Enumerator.lean ====
section
/-! SUPPORT. Everything ENUM's acceptance and a tick can do. -/

namespace Sys2Proof.Machine

/-! ### The sampling part of a tick writes LAST, SAMPLES and the sample port only (42 R119) -/

@[simp] theorem sampleCurrent_result (s : State) : (sampleCurrent s).result = s.result := by unfold sampleCurrent; split <;> rfl
@[simp] theorem sampleCurrent_status (s : State) : (sampleCurrent s).status = s.status := by unfold sampleCurrent; split <;> rfl
@[simp] theorem sampleCurrent_busy (s : State) : (sampleCurrent s).busy = s.busy := by unfold sampleCurrent; split <;> rfl
@[simp] theorem sampleCurrent_count (s : State) : (sampleCurrent s).count = s.count := by unfold sampleCurrent; split <;> rfl
@[simp] theorem sampleCurrent_cur (s : State) : (sampleCurrent s).cur = s.cur := by unfold sampleCurrent; split <;> rfl
@[simp] theorem sampleCurrent_hi (s : State) : (sampleCurrent s).hi = s.hi := by unfold sampleCurrent; split <;> rfl
@[simp] theorem sampleCurrent_eps (s : State) : (sampleCurrent s).eps = s.eps := by unfold sampleCurrent; split <;> rfl
@[simp] theorem sampleCurrent_budget (s : State) : (sampleCurrent s).budget = s.budget := by unfold sampleCurrent; split <;> rfl
@[simp] theorem sampleCurrent_moves (s : State) : (sampleCurrent s).moves = s.moves := by unfold sampleCurrent; split <;> rfl
@[simp] theorem sampleCurrent_draws (s : State) : (sampleCurrent s).draws = s.draws := by unfold sampleCurrent; split <;> rfl
@[simp] theorem sampleCurrent_resetSeen (s : State) : (sampleCurrent s).resetSeen = s.resetSeen := by
  unfold sampleCurrent; split <;> rfl
@[simp] theorem sampleCurrent_last (s : State) :
    (sampleCurrent s).last = bif exceeds s.cur s.last s.eps then s.cur else s.last := by
  unfold sampleCurrent; cases h : exceeds s.cur s.last s.eps <;> simp
@[simp] theorem sampleCurrent_samples (s : State) :
    (sampleCurrent s).samples = bif exceeds s.cur s.last s.eps then s.samples ++ [s.cur] else s.samples := by
  unfold sampleCurrent; cases h : exceeds s.cur s.last s.eps <;> simp
@[simp] theorem sampleCurrent_sampleOut (s : State) :
    (sampleCurrent s).sampleOut = bif exceeds s.cur s.last s.eps then some s.cur else s.sampleOut := by
  unfold sampleCurrent; cases h : exceeds s.cur s.last s.eps <;> simp

/-- R117: the budget check in the spec's words. -/
theorem budgetSpent_iff (s : State) : budgetSpent s = true ↔ s.budget ≠ 0#64 ∧ s.count = s.budget := by
  simp [budgetSpent]

/-- R120: whatever a tick can do when it answers a next state. -/
theorem tick_next {s t : State} (h : tick s = .next t) :
    (budgetSpent s = true ∧ t = raiseError .budgetExceeded s) ∨
    (budgetSpent s = false ∧ isFinite s.cur = true ∧ isFinite s.last = true ∧
      ((s.cur = s.hi ∧ t = finishRun (sampleCurrent (countOne s))) ∨
       (s.cur ≠ s.hi ∧ ∃ r, next32 s.cur = .value r ∧ t = advanceTo r (sampleCurrent (countOne s))) ∨
       (s.cur ≠ s.hi ∧ next32 s.cur = .atInfinity ∧ t = raiseError .atInfinity (sampleCurrent (countOne s))))) := by
  unfold tick endOrAdvance at h
  by_cases hb : budgetSpent s = true
  · simp only [hb, if_true, Host.Outcome.next.injEq] at h
    exact .inl ⟨hb, h.symm⟩
  · refine .inr ⟨by simpa using hb, ?_⟩
    simp only [hb, sampleCurrent_cur, sampleCurrent_hi, countOne_cur, countOne_hi] at h
    by_cases hf : (isFinite s.cur && isFinite s.last) = true
    · simp only [hf] at h
      refine ⟨by simp_all, by simp_all, ?_⟩
      by_cases hc : s.cur = s.hi
      · simp_all
      · cases hn : next32 s.cur <;> simp_all
    · simp [hf] at h

/-- R112, R114, 70 R163: whatever ENUM can do when it answers a next state. -/
theorem execEnum_next {a b : Word} {e g : Word64} {s t : State} (h : execEnum a b e g s = .next t) :
    (s.busy = true ∧ t = s) ∨
    (s.busy = false ∧ s.resetSeen = true ∧ isFinite a = true ∧ isFinite b = true ∧ t = beginEnum a b e g s) ∨
    (s.busy = false ∧ s.resetSeen = true ∧ (isFinite a && isFinite b) = false ∧ t = rejectEnum s) := by
  unfold execEnum at h
  cases hb : s.busy <;> cases hr : s.resetSeen <;> cases ha : isFinite a <;> cases hc : isFinite b <;> simp_all

/-- R113: the bounds are the two operands, in one order or the other. -/
theorem bounds_cases (a b : Word) :
    (key a ≤ key b ∧ lowerBound a b = a ∧ upperBound a b = b) ∨
    (key b < key a ∧ lowerBound a b = b ∧ upperBound a b = a) := by
  unfold lowerBound upperBound
  split <;> simp_all

end Sys2Proof.Machine
end

