-- ==== Sys2Proof/Laws/PerInstr.lean ====
section
/-! SUPPORT. What holds of every command as syntax, proved one constructor at a time. -/

namespace Sys2Proof.Laws

/-- R55: the value of `cmd_op` the opcode table gives each command. -/
def opcodeOf : Instr → BitVec 1
  | .step _ => 0#1
  | .enum _ _ _ _ => 1#1

/-- R55, R56: a command's wires carry its opcode, and the decoder reads the command back from its wires. -/
def PortRoundTrip.Statement (i : Instr) : Prop :=
  (encode i).op = opcodeOf i ∧ decode (encode i) = i

theorem PortRoundTrip.step (a : Word) : PortRoundTrip.Statement (.step a) := by
  simp [PortRoundTrip.Statement, encode, decode, opcodeOf]

theorem PortRoundTrip.enum (a b : Word) (eps budget : Word64) : PortRoundTrip.Statement (.enum a b eps budget) := by
  simp [PortRoundTrip.Statement, encode, decode, opcodeOf]

end Sys2Proof.Laws
end

