-- ==== Sys2Proof/Laws/Step.lean ====
section
/-! SUPPORT. Everything one architectural step can do, said once (70 R175). -/

namespace Sys2Proof.Machine

/-- R175: whatever a step can do when it answers a next state: a reset step, a tick, an accepted STEP, an accepted ENUM that is
rejected or that starts, or an idle step. Every later fact about all steps is a case analysis of this one. -/
theorem step_next {s t : State} (h : step s = .next t) :
    ((hostInput s).rst = true ∧ t = resetUnit (beginStep s)) ∨
    ((hostInput s).rst = false ∧ s.busy = true ∧ tick (beginStep s) = .next t) ∨
    ((hostInput s).rst = false ∧ s.busy = false ∧ s.resetSeen = true ∧
      ∃ a, decode (hostInput s).cmd = .step a ∧ t = completeStep a (beginStep s)) ∨
    ((hostInput s).rst = false ∧ s.busy = false ∧ s.resetSeen = true ∧
      ∃ a b e g, decode (hostInput s).cmd = .enum a b e g ∧
        ((isFinite a = true ∧ isFinite b = true ∧ t = beginEnum a b e g (beginStep s)) ∨
         ((isFinite a && isFinite b) = false ∧ t = rejectEnum (beginStep s)))) ∨
    ((hostInput s).rst = false ∧ s.busy = false ∧ (hostInput s).cmdValid = false ∧ t = beginStep s) := by
  unfold step at h
  cases hr : (hostInput s).rst
  case true => simp_all
  case false =>
    cases hb : s.busy
    case true => simp_all
    case false =>
      cases hv : (hostInput s).cmdValid
      case false => simp_all
      case true =>
        simp only [hr, hb, hv, if_true, if_false, Bool.false_eq_true] at h
        cases hd : decode (hostInput s).cmd with
        | step a =>
          rw [hd] at h
          rcases execStep_next h with ⟨h1, -⟩ | ⟨-, h2, h3⟩
          · simp [hb] at h1
          · exact .inr (.inr (.inl ⟨rfl, rfl, h2, a, rfl, h3⟩))
        | enum a b e g =>
          rw [hd] at h
          rcases execEnum_next h with ⟨h1, -⟩ | ⟨-, h2, ha, hb', h3⟩ | ⟨-, h2, hab, h3⟩
          · simp [hb] at h1
          · exact .inr (.inr (.inr (.inl ⟨rfl, rfl, h2, a, b, e, g, rfl, .inl ⟨ha, hb', h3⟩⟩)))
          · exact .inr (.inr (.inr (.inl ⟨rfl, rfl, h2, a, b, e, g, rfl, .inr ⟨hab, h3⟩⟩)))

end Sys2Proof.Machine
end

