-- ==== Sys2Proof/Laws/Safety.lean ====
section
/-! SUPPORT. The invariants as plain conjunctions, and how a run of steps unfolds. -/

namespace Sys2Proof.Machine

/-- R34, its five parts written out. -/
theorem inv_iff (s : State) : Inv s ↔
    (isFinite s.result = true ∧ isFinite s.cur = true ∧ isFinite s.last = true ∧ isFinite s.hi = true) ∧
    s.status.toNat ≤ 4 ∧ (s.busy = true → s.status = 0#3) ∧
    (s.busy = true → key s.last ≤ key s.cur ∧ key s.cur ≤ key s.hi) ∧
    (s.busy = true → s.budget ≠ 0#64 → s.count.toNat ≤ s.budget.toNat) :=
  ⟨fun h => ⟨h.1, h.2, h.3, h.4, h.5⟩, fun h => ⟨h.1, h.2.1, h.2.2.1, h.2.2.2.1, h.2.2.2.2⟩⟩

/-- An outcome that has a next state is one. -/
theorem next_of_isSome {o : Host.Outcome State Fault Refusal} (h : (nextState? o).isSome = true) : ∃ t, o = .next t := by
  cases o with
  | next t => exact ⟨t, rfl⟩
  | fault f => simp [nextState?] at h
  | refused r => simp [nextState?] at h

@[simp] theorem run_zero (s : State) : run 0 s = .next s := rfl

/-- A first step that answers a next state is followed by the rest of the run. -/
theorem run_succ_of_next {s t : State} (n : Nat) (h : step s = .next t) : run (n + 1) s = run n t := by
  simp [run, h]

/-- A run in two parts. -/
theorem run_add {s t : State} (m n : Nat) (h : run m s = .next t) : run (m + n) s = run n t := by
  induction m generalizing s with
  | zero => simp_all
  | succ m ih =>
    cases hs : step s with
    | next u =>
      rw [run_succ_of_next m hs] at h
      rw [Nat.succ_add_eq_add_succ, Nat.add_succ, run_succ_of_next (m + n) hs]
      exact ih h
    | fault f => simp [run, hs] at h
    | refused r => simp [run, hs] at h

end Sys2Proof.Machine
end

