-- ==== Sys2Proof/Tests/Slice0.lean ====
section
/-! SUPPORT. Small tests against 95_test_vectors and the rules' examples, the smoke test of the well-formedness checks, and the
witnesses that the statements' hypotheses can be met. -/

namespace Sys2Proof.Tests

open Sys2Proof.Machine

/-! ## Well-formedness refuses what it should (30_encoding R64, R56) -/

theorem test_stepOfNaN_illFormed : Instr.wellFormed (.step 0x7FC00000#32) = false := by decide

theorem test_enumFirstBoundInfinite_illFormed :
    Instr.wellFormed (.enum 0xFF800000#32 0#32 0#64 0#64) = false := by decide

theorem test_enumSecondBoundNaN_illFormed :
    Instr.wellFormed (.enum 0#32 0xFFFFFFFF#32 0#64 0#64) = false := by decide

theorem test_nanEpsilon_wellFormed :
    Instr.wellFormed (.enum 0#32 0x7F7FFFFF#32 0x7FF8000000000000#64 0#64) = true := by decide

theorem test_wordAboveBit192_refused : isCommandWord (2 ^ 193) = false := by decide

/-! ## Decoding: words written out from R56 (op 192, a 191:160, b 159:128, eps 127:64, budget 63:0) -/

/-- Program P1, step 1. -/
theorem test_decode_step :
    decodeTableWord 200 0x0_80000001_00000000_0000000000000000_0000000000000000 = some (.step 0x80000001#32) := by decide

/-- R57: every ignored field all ones. -/
theorem test_decode_step_ignoredFields :
    decodeTableWord 200 0x0_80000001_FFFFFFFF_FFFFFFFFFFFFFFFF_FFFFFFFFFFFFFFFF = some (.step 0x80000001#32) := by decide

/-- Program P4, step 1. -/
theorem test_decode_enum :
    decodeTableWord 200 0x1_3F800000_3F800004_3E45798EE2308C3A_0000000000000004 =
      some (.enum 0x3F800000#32 0x3F800004#32 0x3E45798EE2308C3A#64 4#64) := by decide

theorem test_decode_wideWord : decodeWord (2 ^ 193) = .error (.wiresAboveCmdOp (2 ^ 193)) := by rfl

theorem test_encode_enum :
    encodeWord (.enum 0x3F800000#32 0x3F800004#32 0x3E45798EE2308C3A#64 4#64) =
      0x1_3F800000_3F800004_3E45798EE2308C3A_0000000000000004#193 := by decide

/-! ## Fields, classes and keys: rows of 95_test_vectors 2.1 -/

theorem test_unpack_F22_F19 :
    unpack 0xBF800000#32 = (1#1, 127#8, 0#23) ∧ unpack 0x807FFFFF#32 = (1#1, 0#8, 0x7FFFFF#23) ∧
    pack 0#1 1#8 0#23 = 0x00800000#32 := by decide

theorem test_classes_F3_F14_F17_F20_F24_F25 :
    classify 0x007FFFFF#32 = .posCarry ∧ classify 0x7F7FFFFF#32 = .posMax ∧ classify 0x80000000#32 = .negZero ∧
    classify 0x80800000#32 = .negBorrow ∧ classify 0xFF7FFFFF#32 = .negDec ∧ classify 0xFF800000#32 = .nanInf := by decide

theorem test_keys_F8_F14_F17_F24 :
    key 0x3F800000#32 = 1065353216 ∧ key 0x7F7FFFFF#32 = 2139095039 ∧ key 0x80000000#32 = -1 ∧
    key 0xFF7FFFFF#32 = -2139095040 := by decide

/-! ## The stepper: rows of 95_test_vectors 2.2 -/

/-- Operands and results of S1 to S11, S20 to S28. -/
def stepVectors : List (Word × Word) :=
  [(0x00000000#32, 0x00000001#32), (0x007FFFFE#32, 0x007FFFFF#32), (0x007FFFFF#32, 0x00800000#32), (0x00FFFFFF#32, 0x01000000#32),
   (0x3FFFFFFF#32, 0x40000000#32), (0x7EFFFFFF#32, 0x7F000000#32), (0x7F7FFFFE#32, 0x7F7FFFFF#32)] ++
  [(0x80000000#32, 0x00000000#32), (0x80000001#32, 0x80000000#32), (0x807FFFFF#32, 0x807FFFFE#32), (0x80800000#32, 0x807FFFFF#32),
   (0x81000000#32, 0x80FFFFFF#32), (0xBF800000#32, 0xBF7FFFFF#32), (0xC0000000#32, 0xBFFFFFFF#32), (0xFF7FFFFF#32, 0xFF7FFFFE#32)]

theorem test_next32_vectors : stepVectors.all (fun v => next32 v.1 == .value v.2) = true := by decide +kernel

/-- S12, S13, S14, S16, S17. -/
theorem test_next32_errors :
    next32 0x7F7FFFFF#32 = .atInfinity ∧ next32 0x7F800000#32 = .invalidInput ∧ next32 0xFF800000#32 = .invalidInput ∧
    next32 0x7F800001#32 = .invalidInput ∧ next32 0xFFFFFFFF#32 = .invalidInput := by decide

/-! ## The sample test: rows of 95_test_vectors 2.3 -/

/-- Q1, Q2, Q4, Q5, Q9, Q10. -/
theorem test_exceeds_nearOneAndZero :
    exceeds 0x3F800001#32 0x3F800000#32 0x3E80000000000000#64 = false ∧
    exceeds 0x3F800002#32 0x3F800000#32 0x3E80000000000000#64 = true ∧
    exceeds 0x00000001#32 0x00000000#32 0x3E45798EE2308C3A#64 = false ∧
    exceeds 0x00000000#32 0x80000000#32 0#64 = false ∧
    exceeds 0x00000000#32 0x00000000#32 0xBE45798EE2308C3A#64 = true ∧
    exceeds 0x00000001#32 0x00000000#32 0x0000000000000001#64 = true := by decide +kernel

/-- Q11, Q12, Q13: the largest difference against an equal, a smaller and the largest epsilon. -/
theorem test_exceeds_largestDifference :
    exceeds 0x7F7FFFFF#32 0xFF7FFFFF#32 0x47FFFFFFE0000000#64 = false ∧
    exceeds 0x7F7FFFFF#32 0xFF7FFFFF#32 0x47FFFFFFDFFFFFFF#64 = true ∧
    exceeds 0x7F7FFFFF#32 0xFF7FFFFF#32 0x7FEFFFFFFFFFFFFF#64 = false := by decide +kernel

/-- Q14 to Q17. -/
theorem test_exceeds_specialEpsilons :
    exceeds 0x3F800001#32 0x3F800000#32 0x7FF0000000000000#64 = false ∧
    exceeds 0x3F800001#32 0x3F800000#32 0x7FF8000000000000#64 = false ∧
    exceeds 0x3F800000#32 0x3F800000#32 0xFFF8000000000000#64 = false ∧
    exceeds 0x3F800000#32 0x3F800000#32 0xFFF0000000000000#64 = true := by decide

/-- Q20, Q21: the first sample of E21 and the pattern before it. -/
theorem test_exceeds_firstSampleOfE21 :
    exceeds 0x322BCC78#32 0x00000000#32 0x3E45798EE2308C3A#64 = true ∧
    exceeds 0x322BCC77#32 0x00000000#32 0x3E45798EE2308C3A#64 = false := by decide +kernel

/-! ## Single steps -/

/-- P3 step 2 on a unit whose RESULT is old: AtInfinity leaves RESULT alone. -/
theorem test_step_atInfinity :
    (nextState? (exec (.step 0x7F7FFFFF#32) { State.reset with result := 0x12345678#32 })).map
      (fun t => (t.result, t.status)) = some (0x12345678#32, 3#3) := by decide

/-- S20: −0 steps to +0. -/
theorem test_step_negativeZero :
    (nextState? (exec (.step 0x80000000#32) { State.reset with result := 0x12345678#32 })).map
      (fun t => (t.result, t.status)) = some (0x00000000#32, 1#3) := by decide

/-- P2 step 1: the bounds are swapped, the run begins. -/
theorem test_enum_starts :
    (nextState? (exec (.enum 0x00000001#32 0x80000001#32 0#64 0#64) { State.reset with count := 9#64 })).map
      (fun t => (t.cur, t.last, t.hi, t.busy, t.count)) =
        some (0x80000001#32, 0x80000001#32, 0x00000001#32, true, 0#64) := by decide

/-- P3 step 7: a rejected ENUM clears COUNT and keeps CUR. -/
theorem test_enum_rejected :
    (nextState? (exec (.enum 0x7F7FFFFF#32 0x7F800000#32 0#64 0#64)
      { State.reset with count := 2#64, cur := 0x7F7FFFFF#32 })).map
      (fun t => (t.status, t.count, t.cur, t.busy)) = some (2#3, 0#64, 0x7F7FFFFF#32, false) := by decide

/-- The state of R120's example: the second tick of P2. -/
def running : State :=
  { State.reset with busy := true, cur := 0x80000000#32, last := 0x80000001#32, hi := 0x00000001#32, count := 1#64 }

/-- R120's example: COUNT 2, sample −0, LAST −0, CUR +0, still BUSY. -/
theorem test_tick_example :
    (nextState? (step running)).map (fun t => (t.count, t.samples, t.last, t.cur, t.busy)) =
      some (2#64, [0x80000000#32], 0x80000000#32, 0x00000000#32, true) := by decide +kernel

/-- P4 step 6: the budget check fires, COUNT and CUR stay. -/
theorem test_tick_budget :
    (nextState? (step { State.reset with
      busy := true, cur := 0x3F800004#32, last := 0x3F800003#32, hi := 0x3F800004#32, count := 4#64, budget := 4#64 })).map
      (fun t => (t.status, t.busy, t.count, t.cur)) = some (4#3, false, 4#64, 0x3F800004#32) := by decide

/-- P6 step 5: reset while an enumeration runs. -/
theorem test_reset_whileBusy :
    (nextState? (step { running with moves := [⟨true, true, ⟨1#1, 0#32, 0#32, 0#64, 0#64⟩⟩] })).map
      (fun t => (t.busy, t.status, t.count, t.samples)) = some (false, 0#3, 0#64, []) := by decide

/-- A command word presented right after reset is run by the next step (P6 step 6). -/
theorem test_withFetchWord :
    (nextState? (step (State.reset.withFetchWord 200 0))).map (fun t => (t.result, t.status)) =
      some (0x00000001#32, 1#3) := by decide

/-! ## Witnesses: the hypotheses of the statements can be met

Every statement not named here has no hypothesis beyond what its conclusion's case needs, or is met by every state. -/

theorem running_inv : Inv running := (inv_iff _).2 (by decide)

theorem reset_inv : Inv State.reset := (inv_iff _).2 (by decide)

/-- A ready unit to which a command is presented. -/
def presented (i : Instr) : State := { State.reset with moves := [present (encode i)] }

/-- Hypotheses of `WhichStepHappens` and `StepRunsTheDecodedCommand`: each of the four cases. -/
theorem witness_WhichStepHappens :
    (hostInput { running with moves := [⟨true, false, ⟨0#1, 0#32, 0#32, 0#64, 0#64⟩⟩] }).rst = true ∧
    ((hostInput running).rst = false ∧ running.busy = true) ∧
    ((hostInput (presented (.step 0#32))).rst = false ∧ (presented (.step 0#32)).busy = false ∧
      (hostInput (presented (.step 0#32))).cmdValid = true) ∧
    ((hostInput State.reset).rst = false ∧ State.reset.busy = false ∧ (hostInput State.reset).cmdValid = false) := by decide

/-- The second clause of `StepRunsTheDecodedCommand`: the highest command word. -/
theorem witness_StepRunsTheDecodedCommand :
    decodeTableWord 200 (2 ^ 193 - 1) =
      some (.enum 0xFFFFFFFF#32 0xFFFFFFFF#32 0xFFFFFFFFFFFFFFFF#64 0xFFFFFFFFFFFFFFFF#64) := by decide

/-- `CommandWordFieldsDecode`: the highest word of each opcode; `WordsWiderThanThePortAreRefused`: the lowest word refused. -/
theorem witness_CommandWordFieldsDecode :
    (2 ^ 192 - 1 < 2 ^ 193 ∧ (2 ^ 192 - 1) &&& 2 ^ 192 = 0) ∧
    (2 ^ 193 - 1 < 2 ^ 193 ∧ (2 ^ 193 - 1) &&& 2 ^ 192 = 2 ^ 192) ∧ 2 ^ 193 ≤ 2 ^ 193 := by decide

theorem witness_ResetStepLeavesResetValues :
    (hostInput { running with moves := [⟨true, true, ⟨0#1, 0#32, 0#32, 0#64, 0#64⟩⟩] }).rst = true := by decide

theorem witness_CommandBeforeFirstResetIsRefused :
    ({ State.reset with resetSeen := false }).busy = false ∧ ({ State.reset with resetSeen := false }).resetSeen = false := by
  decide

theorem witness_BusyUnitAcceptsNoCommand : running.busy = true := by decide

theorem witness_IdleStepChangesNothing :
    (hostInput State.reset).rst = false ∧ State.reset.busy = false ∧ (hostInput State.reset).cmdValid = false := by decide

/-- `EveryStepKeepsTheInvariants`, `StepNeverStopsAfterReset`, `EnumNeverEndsAtInfinity`. -/
theorem witness_EveryStepKeepsTheInvariants :
    Inv running ∧ running.busy = true ∧ running.resetSeen = true ∧ ∃ t, step running = .next t :=
  ⟨running_inv, rfl, rfl, next_of_isSome (by decide +kernel)⟩

/-- `CountNeverWraps`, `CountRisesByAtMostOne`. -/
theorem witness_CountNeverWraps :
    CountBounded running ∧ running.busy = true ∧ (hostInput running).rst = false ∧ ∃ t, step running = .next t :=
  ⟨by decide, rfl, rfl, _, rfl⟩

theorem witness_NoneInAReadyUnitMeansFresh :
    NoneMeansFresh (presented (.step 0#32)) ∧ ∃ t, step (presented (.step 0#32)) = .next t :=
  ⟨by decide, _, rfl⟩

/-- `SamplesRiseInTheTotalOrder`, with a sample already in the trace. -/
theorem witness_SamplesRiseInTheTotalOrder :
    SamplesRise { running with samples := [0x80000001#32] } ∧
      ∃ t, step { running with samples := [0x80000001#32] } = .next t :=
  ⟨⟨List.pairwise_singleton _ _, List.forall_mem_singleton.2 (by decide), fun _ => List.forall_mem_singleton.2 (by decide)⟩,
    next_of_isSome (by decide +kernel)⟩

/-- Its second and third clauses: the sample 0x80000001 lies at the lower bound, CUR above it, and the step empties nothing. -/
theorem witness_SamplesRiseInTheTotalOrder_bounds :
    Inv { running with samples := [0x80000001#32] } ∧ SamplesBelowHi { running with samples := [0x80000001#32] } ∧
    SamplesAbove 0x80000001#32 { running with samples := [0x80000001#32] } ∧
    ¬ ClearsTrace { running with samples := [0x80000001#32] } :=
  ⟨(inv_iff _).2 (by decide), List.forall_mem_singleton.2 (by decide),
    ⟨by decide, List.forall_mem_singleton.2 (by decide)⟩, by decide⟩

/-- `KeyIsTheTotalOrder`: both signs, a finite pair with equal keys, both ends of the interval. -/
theorem witness_KeyIsTheTotalOrder :
    signOf 0x7F7FFFFF#32 = 0#1 ∧ signOf 0xFF7FFFFF#32 = 1#1 ∧
    isFinite 0x7F7FFFFF#32 = true ∧ isFinite 0xFF7FFFFF#32 = true ∧ key 0xFF7FFFFF#32 = key 0xFF7FFFFF#32 ∧
    ((-2139095040 : Int) ≤ -2139095040 ∧ (-2139095040 : Int) ≤ 2139095039) ∧
    ((-2139095040 : Int) ≤ 2139095039 ∧ (2139095039 : Int) ≤ 2139095039) := by decide

/-- `KeyOrderAgreesWithTheReals`: the two zeros, whose keys are ordered. -/
theorem witness_KeyOrderAgreesWithTheReals :
    isFinite 0x80000000#32 = true ∧ isFinite 0x00000000#32 = true ∧ key 0x80000000#32 < key 0x00000000#32 := by decide

/-- Its other clauses: the zeros' real values are equal, and 0 lies below the smallest subnormal's. -/
theorem witness_KeyOrderAgreesWithTheReals_reals :
    real32 0x80000000#32 = real32 0x00000000#32 ∧ isFinite 0x00000001#32 = true ∧
      real32 0x00000000#32 < real32 0x00000001#32 := by
  refine ⟨?_, by decide, ?_⟩
  · simp [real32, exponentOf, mantissaOf]
  · simp [real32, exponentOf, mantissaOf, signOf]

/-- `NextByRegion`: the boundary of each region's range. -/
theorem witness_NextByRegion :
    ((254#8).toNat ≤ 254 ∧ (0x7FFFFE#23).toNat < 0x7FFFFF) ∧ (253#8).toNat ≤ 253 ∧
    ((254#8).toNat ≤ 254 ∧ 0 < (1#23).toNat) ∧ (1 ≤ (1#8).toNat ∧ (254#8).toNat ≤ 254) := by decide

/-- `ExponentCeiling`, `StepperOutputs`: an answered value next to the ceiling, and −0. -/
theorem witness_StepperOutputs :
    (next32 0x7F7FFFFE#32 = .value 0x7F7FFFFF#32 ∧ (0x7F7FFFFE#32 : Word) ≠ 0x80000000#32) ∧
    next32 0x80000000#32 = .value 0x00000000#32 := by decide

/-- `NegativeZeroStepsToPositiveZero`: −0 meets its premises. -/
theorem witness_NegativeZeroStepsToPositiveZero :
    next32 0x80000000#32 = .value 0x00000000#32 ∧ signOf (0x00000000#32 : Word) ≠ signOf 0x80000000#32 ∧
      real32 0x00000000#32 = real32 0x80000000#32 :=
  ⟨by decide, by decide, witness_KeyOrderAgreesWithTheReals_reals.1.symm⟩

/-- `NextIsTheSuccessor`, `AdderFormulationIsTheSameFunction`: the two ends of the finite patterns. -/
theorem witness_NextIsTheSuccessor :
    isFinite 0xFF7FFFFF#32 = true ∧ (0xFF7FFFFF#32 : Word) ≠ 0x7F7FFFFF#32 ∧ isFinite 0x7F7FFFFF#32 = true := by decide

/-- `SampleTestIsTheExactRealComparison` and the clauses of `SampleTestOnSpecialEpsilons`. -/
theorem witness_SampleTestOnSpecialEpsilons :
    isFinite 0x3F800001#32 = true ∧ isFinite 0x3F800000#32 = true ∧
    exponentOf64 0x7FEFFFFFFFFFFFFF#64 ≠ 2047#11 ∧
    (exponentOf64 0xFFF8000000000000#64 = 2047#11 ∧ fractionOf64 0xFFF8000000000000#64 ≠ 0#52) := by decide

/-- Its clause on finite negatives, at the one nearest zero. -/
theorem witness_SampleTestOnSpecialEpsilons_negative :
    exponentOf64 0x8000000000000001#64 ≠ 2047#11 ∧ real64 0x8000000000000001#64 < 0 := by
  refine ⟨by decide, ?_⟩
  simp [real64, exponentOf64, fractionOf64, signOf64]

/-- `StepCompletes`, `StepTouchesNothingElse`, `EnumStarts`, `EnumRejectsABadBound`,
`IllFormedOperandsCompleteWithInvalidInput`: a ready unit, and operands of each clause. -/
theorem witness_StepCompletes :
    State.reset.busy = false ∧ State.reset.resetSeen = true ∧
    next32 0x7F7FFFFE#32 = .value 0x7F7FFFFF#32 ∧ exponentOf 0x7F800000#32 = 255#8 ∧
    (isFinite 0x7F7FFFFE#32 = true ∧ (0x7F7FFFFE#32 : Word) ≠ 0x7F7FFFFF#32) := by decide

theorem witness_StepTouchesNothingElse :
    ∃ t, exec (.step 0x7F7FFFFE#32) State.reset = .next t ∧ t.status = 1#3 := ⟨_, rfl, by decide⟩

theorem witness_EnumRejectsABadBound :
    exponentOf 0xFF800000#32 = 255#8 ∨ exponentOf 0x00000000#32 = 255#8 := by decide

theorem witness_EnumStarts : isFinite 0x7F7FFFFF#32 = true ∧ isFinite 0x80000000#32 = true := by decide

/-- `BoundsAreOrderedByKey`: equal keys and swapped bounds. -/
theorem witness_BoundsAreOrderedByKey :
    isFinite 0x80000000#32 = true ∧ isFinite 0x00000000#32 = true ∧
    key 0x80000000#32 ≤ key 0x80000000#32 ∧ ¬ key 0x00000000#32 ≤ key 0x80000000#32 := by decide

/-- `EnumAcceptanceFrame`, `EnumNeverWritesResult`: an accepted ENUM and a rejected one. -/
theorem witness_EnumAcceptanceFrame :
    (∃ t, exec (.enum 0#32 1#32 0#64 0#64) State.reset = .next t) ∧
    (∃ t, exec (.enum 0#32 0x7F800000#32 0#64 0#64) State.reset = .next t) ∧ isFinite 0x7F800000#32 = false :=
  ⟨⟨_, rfl⟩, ⟨_, rfl⟩, by decide⟩

/-- The last clause of `EnumAcceptanceFrame`: an ENUM at a BUSY unit. -/
theorem witness_EnumAcceptanceFrame_busy :
    running.busy = true ∧ exec (.enum 0#32 1#32 0#64 0#64) running = .next running := ⟨rfl, rfl⟩

theorem witness_EnumNeverWritesResult : ∃ t, tick running = .next t := ⟨_, rfl⟩

/-- The states of the three clauses of `TickBudgetCheck`, the first also that of `TickWhole`: at the budget, one below it, and the last value of a full budget. -/
theorem witness_TickBudgetCheck :
    ((running).busy = true ∧ (hostInput running).rst = false) ∧
    (({ running with budget := 1#64 }).budget ≠ 0#64 ∧
      ({ running with budget := 1#64 }).count = ({ running with budget := 1#64 }).budget) ∧
    (({ running with budget := 2#64 }).count ≠ ({ running with budget := 2#64 }).budget ∧ running.status ≠ 4#3) ∧
    (({ running with budget := 2#64 }).count + 1#64 = ({ running with budget := 2#64 }).budget ∧
      ({ running with cur := 1#32, budget := 2#64 }).cur = running.hi) ∧
    ∃ t, step { running with budget := 2#64 } = .next t :=
  ⟨by decide, by decide, by decide, by decide, _, rfl⟩

/-- `TickWhole`, `TickFrame`: the example's tick meets the premises, with a sample; at HI; and in the defence branch. -/
theorem witness_TickWhole :
    (running.budget = 0#64 ∨ running.count ≠ running.budget) ∧ isFinite running.cur = true ∧ isFinite running.last = true ∧
    exceeds running.cur running.last running.eps = true ∧
    exceeds 0x80000000#32 0x80000000#32 0#64 = false ∧
    running.cur ≠ running.hi ∧ next32 running.cur = .value 0x00000000#32 ∧
    ({ running with cur := 1#32 }).cur = running.hi ∧
    ((0x7F7FFFFF#32 : Word) ≠ running.hi ∧ next32 0x7F7FFFFF#32 = .atInfinity) := by decide +kernel

/-- `TickStopsOnlyOnNonFiniteCursor`: a CUR at +infinity, and a LAST that is NaN, with and without a budget left. -/
theorem witness_TickStopsOnlyOnNonFiniteCursor :
    isFinite ({ running with cur := 0x7F800000#32 }).cur = false ∧
    step { running with cur := 0x7F800000#32 } = .fault .cursorNotFinite ∧
    isFinite ({ running with last := 0x7FC00000#32, budget := 2#64 }).last = false ∧
    step { running with last := 0x7FC00000#32, budget := 2#64 } = .fault .cursorNotFinite :=
  ⟨by decide, rfl, by decide, rfl⟩

/-- `SamplePortShowsTheTickSample`: a step that shows a sample and one that does not. -/
theorem witness_SamplePortShowsTheTickSample :
    (nextState? (step running)).map sampleValid = some true ∧
    (nextState? (step State.reset)).map sampleValid = some false := by decide +kernel

/-- The other clauses of `SamplePortShowsTheTickSample`: an accepted ENUM, a reset step, and steps that empty nothing: a counting
tick, a tick at the budget, an accepted STEP. -/
theorem witness_SamplePortShowsTheTickSample_clears :
    ClearsTrace (presented (.enum 0#32 1#32 0#64 0#64)) ∧
    ClearsTrace { running with moves := [⟨true, false, ⟨0#1, 0#32, 0#32, 0#64, 0#64⟩⟩] } ∧
    (¬ ClearsTrace running ∧ (running.budget = 0#64 ∨ running.count ≠ running.budget)) ∧
    (¬ ClearsTrace { running with budget := 1#64 } ∧ running.count = 1#64) ∧
    (¬ ClearsTrace (presented (.step 0#32)) ∧ (presented (.step 0#32)).busy = false) := by decide

/-- Each of them has a next state. -/
theorem witness_SamplePortShowsTheTickSample_next :
    (nextState? (step (presented (.enum 0#32 1#32 0#64 0#64)))).map (fun t => (t.count, t.samples)) = some (0#64, []) ∧
    (nextState? (step { running with budget := 1#64 })).map (fun t => (sampleValid t, t.count)) = some (false, 1#64) ∧
    (nextState? (step (presented (.step 0#32)))).map (fun t => (sampleValid t, t.count)) = some (false, 0#64) := by decide

/-- `EnumClosedForm`: a ready unit to which an ENUM of five values is presented, without a budget and with one that is short
by one (E17, E18). -/
theorem witness_EnumClosedForm :
    (presented (.enum 0x3F800000#32 0x3F800004#32 0#64 0#64)).busy = false ∧
    (presented (.enum 0x3F800000#32 0x3F800004#32 0#64 0#64)).resetSeen = true ∧
    isFinite 0x3F800000#32 = true ∧ isFinite 0x3F800004#32 = true ∧
    tickTotal 0x3F800000#32 0x3F800004#32 0#64 = 5 ∧ tickTotal 0x3F800000#32 0x3F800004#32 4#64 = 5 ∧
    budgetCovers 0x3F800000#32 0x3F800004#32 4#64 = false ∧ budgetCovers 0x3F800000#32 0x3F800004#32 5#64 = true ∧
    NoReset 6 (presented (.enum 0x3F800000#32 0x3F800004#32 0#64 0#64)) := by decide

/-- `EveryEnumTerminates`. -/
theorem witness_EveryEnumTerminates :
    Inv { running with budget := 2#64 } ∧ NoReset 3 { running with budget := 2#64 } ∧
      (key running.hi - key running.cur + 1).toNat = 3 :=
  ⟨(inv_iff _).2 (by decide), by decide, by decide⟩

/-- `SingleValueCountsOne`: −0 alone, and each kind of epsilon. -/
theorem witness_SingleValueCountsOne :
    isFinite 0x80000000#32 = true ∧ NoReset 2 (presented (.enum 0x80000000#32 0x80000000#32 0#64 0#64)) ∧
    signOf64 0x7FF0000000000000#64 = 0#1 ∧
    (exponentOf64 0xFFF8000000000000#64 = 2047#11 ∧ fractionOf64 0xFFF8000000000000#64 ≠ 0#52) := by decide

theorem witness_RangesAcrossZero :
    signOf 0x7F7FFFFF#32 = 0#1 ∧ isFinite 0x7F7FFFFF#32 = true ∧ (0x7F7FFFFF#32 : Word) ≠ 0#32 := by decide

/-- `HiddenRegistersDoNotLeak`: two ready units that differ in every hidden register and show the same. -/
theorem witness_HiddenRegistersDoNotLeak :
    observe { State.reset with cur := 5#32, last := 4#32, hi := 9#32, eps := 1#64, budget := 7#64, samples := [5#32] } =
      observe State.reset ∧ State.reset.busy = false := by decide

/-- `UnitsShareNothing`: unit 0 of two steps. -/
theorem witness_UnitsShareNothing :
    (∃ vs, stepUnit 0 [running, State.reset] = .next vs) ∧ (∃ vs, stepUnit 0 [running] = .next vs) ∧
      ([running, State.reset] : List State)[0]? = ([running] : List State)[0]? :=
  ⟨⟨_, rfl⟩, ⟨_, rfl⟩, rfl⟩

end Sys2Proof.Tests
end

/-! # The state (10_state): its invariants, the frame of its steps, and what the host sees of it

Lemmas about the stepper, about each register write under the invariants of R34, about what each kind of step does to COUNT, the
trace and the sample port, and about two units that the host cannot tell apart; then the seven statements on the state. -/

namespace Sys2Proof.Machine

/-! ## The key and the stepper -/

/-- R88: distinct patterns have distinct keys. -/
theorem key_injective {p q : Word} (h : key p = key q) : p = q := by
  rw [key_eq, key_eq] at h
  apply BitVec.eq_of_toNat_eq
  split at h <;> split at h <;> omega

/-- R103: a step of the stepper raises the key by one. -/
theorem key_of_next32_value {p r : Word} (h : next32 p = .value r) : key r = key p + 1 := by
  rw [key_eq, key_eq]
  obtain ⟨hp, hr⟩ | ⟨hp, hr⟩ | ⟨hlo, hhi, hr⟩ := next32_value h <;> split <;> split <;> omega

/-- R104 (a): what the stepper answers is a finite pattern. -/
theorem isFinite_of_next32_value {p r : Word} (h : next32 p = .value r) : isFinite r = true := by
  rw [isFinite_iff]
  obtain ⟨hp, hr⟩ | ⟨hp, hr⟩ | ⟨hlo, hhi, hr⟩ := next32_value h <;> omega

/-! ## The kinds of step (70 R175) -/

theorem step_of_rst {s : State} (hr : (hostInput s).rst = true) : step s = .next (resetUnit (beginStep s)) := by
  simp [step, hr]

theorem step_of_busy {s : State} (hr : (hostInput s).rst = false) (hb : s.busy = true) : step s = tick (beginStep s) := by
  simp [step, hr, hb]

theorem step_of_command {s : State} (hr : (hostInput s).rst = false) (hb : s.busy = false)
    (hv : (hostInput s).cmdValid = true) : step s = exec (decode (hostInput s).cmd) (beginStep s) := by
  simp [step, hr, hb, hv]

theorem step_of_idle {s : State} (hr : (hostInput s).rst = false) (hb : s.busy = false)
    (hv : (hostInput s).cmdValid = false) : step s = .next (beginStep s) := by
  simp [step, hr, hb, hv]

/-! ## STEP leaves COUNT, the trace and the sample port (41 R106) -/

@[simp] theorem completeStep_count (a : Word) (s : State) : (completeStep a s).count = s.count := by
  obtain ⟨r, -, h⟩ | ⟨-, h⟩ | ⟨-, h⟩ := completeStep_cases a s <;> simp [h]

@[simp] theorem completeStep_samples (a : Word) (s : State) : (completeStep a s).samples = s.samples := by
  obtain ⟨r, -, h⟩ | ⟨-, h⟩ | ⟨-, h⟩ := completeStep_cases a s <;> simp [h]

@[simp] theorem completeStep_sampleOut (a : Word) (s : State) : (completeStep a s).sampleOut = s.sampleOut := by
  obtain ⟨r, -, h⟩ | ⟨-, h⟩ | ⟨-, h⟩ := completeStep_cases a s <;> simp [h]

/-! ## The invariants of R34, one register write at a time -/

section Invariants

variable {s t : State}

theorem codeOf_le_four (c : StatusCode) : (codeOf c).toNat ≤ 4 := by cases c <;> decide

theorem inv_reset : Inv State.reset := (inv_iff _).2 (by decide)

theorem inv_resetUnit (s : State) : Inv (resetUnit s) := (inv_iff _).2 ((inv_iff State.reset).1 inv_reset)

theorem inv_beginStep (h : Inv s) : Inv (beginStep s) := (inv_iff _).2 ((inv_iff s).1 h)

/-- A unit that is not BUSY has only the finite patterns and the status code to keep. -/
theorem inv_of_ready (hf : FinitePatterns s) (hs : LegalStatus s) (hb : s.busy = false) : Inv s :=
  ⟨hf, hs, by simp [BusyShowsNone, hb], by simp [CursorInRange, hb], by simp [CountWithinBudget, hb]⟩

theorem inv_raiseError (h : Inv s) (k : ErrorKind) : Inv (raiseError k s) :=
  inv_of_ready h.finitePatterns (codeOf_le_four _) rfl

theorem inv_finishRun (h : Inv s) : Inv (finishRun s) :=
  inv_of_ready h.finitePatterns (codeOf_le_four _) rfl

/-- R105: STEP keeps the invariants, since what it writes to RESULT is finite. -/
theorem inv_completeStep (h : Inv s) (hb : s.busy = false) (a : Word) : Inv (completeStep a s) := by
  obtain ⟨r, hr, he⟩ | ⟨-, he⟩ | ⟨-, he⟩ := completeStep_cases a s <;> rw [he]
  · obtain ⟨-, hcur, hlast, hhi⟩ := h.finitePatterns
    exact inv_of_ready ⟨isFinite_of_next32_value hr, hcur, hlast, hhi⟩ (codeOf_le_four _) hb
  · exact inv_raiseError h _
  · exact inv_raiseError h _

/-- R112: a rejected ENUM completes as an error. -/
theorem inv_rejectEnum (h : Inv s) : Inv (rejectEnum s) :=
  inv_of_ready h.finitePatterns (codeOf_le_four _) rfl

/-- R114: an accepted ENUM starts with LAST and CUR at the lower of two finite bounds and COUNT at 0. -/
theorem inv_beginEnum (h : Inv s) {a b : Word} (ha : isFinite a = true) (hb : isFinite b = true) (e g : Word64) :
    Inv (beginEnum a b e g s) where
  finitePatterns := by
    obtain ⟨hres, -, -, -⟩ := h.finitePatterns
    obtain ⟨-, hlo, hup⟩ | ⟨-, hlo, hup⟩ := bounds_cases a b <;>
      simp [FinitePatterns, beginEnum, hlo, hup, hres, ha, hb]
  legalStatus := codeOf_le_four .none
  busyShowsNone _ := rfl
  cursorInRange _ := by
    obtain ⟨hk, hlo, hup⟩ | ⟨hk, hlo, hup⟩ := bounds_cases a b <;>
      simp [beginEnum, hlo, hup, hk, le_of_lt]
  countWithinBudget _ _ := Nat.zero_le _

/-- R117, R118: a tick that finds budget left counts within it. -/
theorem inv_countOne (h : Inv s) (hb : s.busy = true) (hg : budgetSpent s = false) : Inv (countOne s) := by
  obtain ⟨hfinite, hstatus, hnone, hrange, hcount⟩ := h
  refine ⟨hfinite, hstatus, hnone, hrange, fun _ (hne : s.budget ≠ 0#64) => ?_⟩
  have hle := hcount hb hne
  have hneq : s.count.toNat ≠ s.budget.toNat := fun he =>
    absurd ((budgetSpent_iff s).2 ⟨hne, BitVec.eq_of_toNat_eq he⟩) (by simp [hg])
  simp only [countOne_count, countOne_budget, BitVec.toNat_add, BitVec.toNat_ofNat]
  omega

/-- R119: LAST keeps its value or takes CUR's, and either lies at or below CUR. -/
theorem inv_sampleCurrent (h : Inv s) : Inv (sampleCurrent s) := by
  unfold sampleCurrent
  split
  · obtain ⟨⟨hres, hcur, -, hhi⟩, hstatus, hnone, hrange, hcount⟩ := h
    exact ⟨⟨hres, hcur, hcur, hhi⟩, hstatus, hnone, fun hb => ⟨le_rfl, (hrange hb).2⟩, hcount⟩
  · exact h

/-- R120: CUR moves up by one key and stays at or below HI, because it had not reached HI. -/
theorem inv_advanceTo (h : Inv s) {r : Word} (hne : s.cur ≠ s.hi) (hr : next32 s.cur = .value r) :
    Inv (advanceTo r s) := by
  obtain ⟨⟨hres, -, hlast, hhi⟩, hstatus, hnone, hrange, hcount⟩ := h
  refine ⟨⟨hres, isFinite_of_next32_value hr, hlast, hhi⟩, hstatus, hnone, fun hb => ?_, hcount⟩
  obtain ⟨hlo, hup⟩ := hrange hb
  have hk := key_of_next32_value hr
  have hkey : key s.cur ≠ key s.hi := fun he => hne (key_injective he)
  simp only [advanceTo_last, advanceTo_cur, advanceTo_hi]
  omega

/-- R120: a tick keeps the invariants. -/
theorem inv_tick (h : Inv s) (hb : s.busy = true) (ht : tick s = .next t) : Inv t := by
  obtain ⟨-, rfl⟩ | ⟨hg, -, -, hend⟩ := tick_next ht
  · exact inv_raiseError h _
  · have hs := inv_sampleCurrent (inv_countOne h hb hg)
    obtain ⟨-, rfl⟩ | ⟨hne, r, hr, rfl⟩ | ⟨-, -, rfl⟩ := hend
    · exact inv_finishRun hs
    · exact inv_advanceTo hs (by simpa using hne) (by simpa using hr)
    · exact inv_raiseError hs _

/-- R34: every step keeps the invariants. -/
theorem inv_step (h : Inv s) (ht : step s = .next t) : Inv t := by
  have h' := inv_beginStep h
  obtain ⟨-, rfl⟩ | ⟨-, hb, htick⟩ | ⟨-, hb, -, a, -, rfl⟩ | ⟨-, -, -, a, b, e, g, -, hacc⟩ | ⟨-, -, -, rfl⟩ :=
    step_next ht
  · exact inv_resetUnit _
  · exact inv_tick h' hb htick
  · exact inv_completeStep h' hb a
  · obtain ⟨ha, hb, rfl⟩ | ⟨-, rfl⟩ := hacc
    · exact inv_beginEnum h' ha hb e g
    · exact inv_rejectEnum h'
  · exact h'

end Invariants

/-- Settles O13: one lemma for each register write, put together along the cases of `step_next`. -/
theorem everyStepKeepsTheInvariants : Obligations.EveryStepKeepsTheInvariants := by
  refine ⟨fun s t hr ht => ?_, fun s t h ht => inv_step h ht⟩
  rw [step_of_rst hr, Host.Outcome.next.injEq] at ht
  exact ht ▸ inv_resetUnit _

/-- Settles O12: the reset state is ready, with no samples, COUNT 0 and finite patterns everywhere. -/
theorem resetStateMeetsTheInvariants : Obligations.ResetStateMeetsTheInvariants :=
  ⟨inv_reset, by simp [CountBounded, State.reset], by simp [SamplesRise, State.reset],
    by simp [SamplesBelowHi, State.reset], by simp [NoneMeansFresh, State.reset]⟩

/-! ## What a tick writes -/

section Tick

variable {s t : State}

/-- R18, R24 to R26: the frame of a tick. -/
theorem tick_frame (h : tick s = .next t) :
    t.result = s.result ∧ t.hi = s.hi ∧ t.eps = s.eps ∧ t.budget = s.budget ∧
    t.moves = s.moves ∧ t.draws = s.draws ∧ t.resetSeen = s.resetSeen := by
  obtain ⟨-, rfl⟩ | ⟨-, -, -, ⟨-, rfl⟩ | ⟨-, r, -, rfl⟩ | ⟨-, -, rfl⟩⟩ := tick_next h <;> simp

/-- R22: a tick leaves CUR or moves it to the next value. -/
theorem tick_cur (h : tick s = .next t) : t.cur = s.cur ∨ next32 s.cur = .value t.cur := by
  obtain ⟨-, rfl⟩ | ⟨-, -, -, ⟨-, rfl⟩ | ⟨-, r, hr, rfl⟩ | ⟨-, -, rfl⟩⟩ := tick_next h
  · exact .inl rfl
  · exact .inl (by simp)
  · exact .inr hr
  · exact .inl (by simp)

/-- R117: the budget check passes without a budget and below it. -/
theorem budgetSpent_eq_false_iff (s : State) : budgetSpent s = false ↔ s.budget = 0#64 ∨ s.count ≠ s.budget := by
  rw [← Bool.not_eq_true, budgetSpent_iff, not_and_or, not_not]

/-- R118: a tick counts exactly when it passes the budget check. -/
theorem tick_count (h : tick s = .next t) : t.count = if budgetSpent s then s.count else s.count + 1#64 := by
  obtain ⟨hg, rfl⟩ | ⟨hg, -, -, ⟨-, rfl⟩ | ⟨-, r, -, rfl⟩ | ⟨-, -, rfl⟩⟩ := tick_next h <;> simp [hg]

/-- R119: the tick reports CUR: it passes the budget check and CUR lies further from LAST than epsilon. -/
def reportsCur (s : State) : Bool := !budgetSpent s && exceeds s.cur s.last s.eps

theorem reportsCur_iff (s : State) : reportsCur s = true ↔
    (s.budget = 0#64 ∨ s.count ≠ s.budget) ∧ exceeds s.cur s.last s.eps = true := by
  rw [reportsCur, Bool.and_eq_true, Bool.not_eq_true', budgetSpent_eq_false_iff]

/-- R119: a tick writes LAST, the trace and the sample port exactly when it reports CUR. -/
theorem tick_sample (h : tick s = .next t) :
    t.last = (if reportsCur s then s.cur else s.last) ∧
    t.samples = (if reportsCur s then s.samples ++ [s.cur] else s.samples) ∧
    t.sampleOut = (if reportsCur s then some s.cur else s.sampleOut) := by
  obtain ⟨hg, rfl⟩ | ⟨hg, -, -, ⟨-, rfl⟩ | ⟨-, r, -, rfl⟩ | ⟨-, -, rfl⟩⟩ := tick_next h
  · simp [reportsCur, hg]
  all_goals cases he : exceeds s.cur s.last s.eps <;> simp [reportsCur, hg, he]

end Tick

/-- Settles O44: the frame of `tick` on the state that `beginStep` gives. -/
theorem tickFrame : Obligations.TickFrame := by
  intro s t hb hr h
  rw [step_of_busy hr hb] at h
  obtain ⟨hresult, hhi, heps, hbudget, hmoves, hdraws, hseen⟩ := tick_frame h
  obtain ⟨hlast, -, -⟩ := tick_sample h
  refine ⟨hresult, hhi, heps, hbudget, hmoves, hdraws, hseen, by simpa using tick_cur h, ?_⟩
  split at hlast
  · exact .inr hlast
  · exact .inl hlast

/-! ## COUNT, the trace and the sample port in a whole step -/

section Trace

variable {s t : State}

theorem decode_of_op_one {c : Command} (h : c.op = 1#1) : decode c = .enum c.a c.b c.eps c.budget := by
  simp [decode, h]

theorem decode_of_op_ne_one {c : Command} (h : c.op ≠ 1#1) : decode c = .step c.a := by
  have h0 : c.op = 0#1 := by have := c.op.isLt; bv_omega
  simp [decode, h0]

/-- R112, R114: an accepted ENUM, rejected or started, empties COUNT and the trace and emits no sample. -/
theorem execEnum_clears {a b : Word} {e g : Word64} (hb : s.busy = false) (h : execEnum a b e g s = .next t) :
    t.samples = [] ∧ t.count = 0#64 ∧ t.sampleOut = s.sampleOut := by
  obtain ⟨hb', -⟩ | ⟨-, -, -, -, rfl⟩ | ⟨-, -, -, rfl⟩ := execEnum_next h
  · simp [hb] at hb'
  · simp [beginEnum]
  · simp [rejectEnum]

/-- R106: STEP leaves COUNT, the trace and the sample port. -/
theorem execStep_keeps_trace {a : Word} (h : execStep a s = .next t) :
    t.samples = s.samples ∧ t.count = s.count ∧ t.sampleOut = s.sampleOut := by
  obtain ⟨-, rfl⟩ | ⟨-, -, rfl⟩ := execStep_next h <;> simp

/-- R31, R160: a reset step or an accepted ENUM empties COUNT and the trace and shows no sample. -/
theorem step_of_clearsTrace (hc : ClearsTrace s) (h : step s = .next t) :
    t.samples = [] ∧ t.count = 0#64 ∧ t.sampleOut = none := by
  cases hr : (hostInput s).rst with
  | true =>
    rw [step_of_rst hr, Host.Outcome.next.injEq] at h
    subst h
    exact ⟨rfl, rfl, rfl⟩
  | false =>
    obtain ⟨hb, hv, hop⟩ := hc.resolve_left (by simp [hr])
    rw [step_of_command hr hb hv, decode_of_op_one hop] at h
    exact execEnum_clears (s := beginStep s) hb h

/-- R106, R153: a ready unit that is not reset and accepts no ENUM keeps COUNT and the trace and shows no sample. -/
theorem step_of_ready_of_not_clearsTrace (hc : ¬ ClearsTrace s) (hb : s.busy = false) (h : step s = .next t) :
    t.samples = s.samples ∧ t.count = s.count ∧ t.sampleOut = none := by
  obtain ⟨hr, hacc⟩ := not_or.1 hc
  rw [Bool.not_eq_true] at hr
  cases hv : (hostInput s).cmdValid with
  | true =>
    rw [step_of_command hr hb hv, decode_of_op_ne_one fun hop => hacc ⟨hb, hv, hop⟩] at h
    exact execStep_keeps_trace (s := beginStep s) h
  | false =>
    rw [step_of_idle hr hb hv, Host.Outcome.next.injEq] at h
    subst h
    exact ⟨rfl, rfl, rfl⟩

end Trace

/-- Settles O46: a step empties COUNT and the trace, or is another step of a ready unit, or is a tick. -/
theorem samplePortShowsTheTickSample : Obligations.SamplePortShowsTheTickSample := by
  intro s t h
  by_cases hc : ClearsTrace s
  · obtain ⟨hsamples, hcount, hout⟩ := step_of_clearsTrace hc h
    have hv : sampleValid t = false := by simp [sampleValid, hout]
    have hnot : ¬ ((hostInput s).rst = false ∧ s.busy = true) := by
      rintro ⟨hr, hb⟩
      simp [ClearsTrace, hr, hb] at hc
    simp only [hv, hc, hsamples, hcount]
    tauto
  cases hb : s.busy with
  | false =>
    obtain ⟨hsamples, hcount, hout⟩ := step_of_ready_of_not_clearsTrace hc hb h
    simp [sampleValid, hout, hc, hsamples, hcount]
  | true =>
    have hr : (hostInput s).rst = false := by
      simpa using fun hr => hc (.inl hr)
    rw [step_of_busy hr hb] at h
    obtain ⟨-, hsamples, hout⟩ := tick_sample h
    have hvalid : sampleValid t = true ↔ reportsCur (beginStep s) = true := by
      rw [sampleValid, hout]
      split <;> simp [*]
    refine ⟨hvalid.trans ((reportsCur_iff _).trans (by simp [hr])), fun hv => ?_, fun h => absurd h hc, fun _ hv => ?_,
      fun _ => ⟨fun ⟨_, hleft⟩ => ?_, fun hspent => ?_⟩⟩
    · rw [if_pos (hvalid.1 hv)] at hout hsamples
      exact ⟨by simp [sampleData, hout], hsamples⟩
    · have hno : ¬ reportsCur (beginStep s) = true := by simp [← hvalid, hv]
      rwa [if_neg hno] at hsamples
    · have hg : budgetSpent (beginStep s) = false := (budgetSpent_eq_false_iff _).2 hleft
      simpa [hg] using tick_count h
    · have hg : budgetSpent (beginStep s) = true := (budgetSpent_iff _).2 (hspent.resolve_left (by simp))
      simpa [hg] using tick_count h

/-! ## Two units that the host cannot tell apart (10_state R33, 70 R169) -/

/-- R169: what a running enumeration reads of the hidden registers is the same in both units. -/
def SameRange (s t : State) : Prop :=
  s.cur = t.cur ∧ s.last = t.last ∧ s.hi = t.hi ∧ s.eps = t.eps ∧ s.budget = t.budget

/-- R33, R169: the two units show the host the same and await the same host moves, and while they are BUSY they enumerate the same
range. Traces and draw numbers may differ, and so may the hidden registers of ready units. -/
structure Alike (s t : State) : Prop where
  observed  : observe s = observe t
  moves     : s.moves = t.moves
  resetSeen : s.resetSeen = t.resetSeen
  range     : s.busy = true → SameRange s t

/-- Two outcomes that the host cannot tell apart, and after which it never will. -/
inductive OutcomesAlike : Host.Outcome State Fault Refusal → Host.Outcome State Fault Refusal → Prop
  | next {s t : State} (h : Alike s t) : OutcomesAlike (.next s) (.next t)
  | fault (f : Fault) : OutcomesAlike (.fault f) (.fault f)
  | refused (r : Refusal) : OutcomesAlike (.refused r) (.refused r)

/-- R33: the output ports agree when the registers behind them do. -/
theorem observe_eq_iff (s t : State) : observe s = observe t ↔
    s.result = t.result ∧ s.status = t.status ∧ s.count = t.count ∧ s.busy = t.busy ∧ s.sampleOut = t.sampleOut := by
  simp [observe, cmdReady]

section Alike

variable {s t : State}

theorem alike_resetUnit (h : Alike s t) : Alike (resetUnit s) (resetUnit t) :=
  ⟨rfl, h.moves, rfl, by simp [State.reset]⟩

theorem alike_beginStep (h : Alike s t) : Alike (beginStep s) (beginStep t) := by
  obtain ⟨hresult, hstatus, hcount, hbusy, -⟩ := (observe_eq_iff s t).1 h.observed
  exact ⟨(observe_eq_iff _ _).2 ⟨hresult, hstatus, hcount, hbusy, rfl⟩, congrArg List.tail h.moves, h.resetSeen, h.range⟩

theorem alike_raiseError (h : Alike s t) (k : ErrorKind) : Alike (raiseError k s) (raiseError k t) := by
  obtain ⟨hresult, -, hcount, -, hout⟩ := (observe_eq_iff s t).1 h.observed
  exact ⟨(observe_eq_iff _ _).2 ⟨hresult, rfl, hcount, rfl, hout⟩, h.moves, h.resetSeen, by simp⟩

theorem alike_finishRun (h : Alike s t) : Alike (finishRun s) (finishRun t) := by
  obtain ⟨hresult, -, hcount, -, hout⟩ := (observe_eq_iff s t).1 h.observed
  exact ⟨(observe_eq_iff _ _).2 ⟨hresult, rfl, hcount, rfl, hout⟩, h.moves, h.resetSeen, by simp⟩

theorem alike_writeResult (h : Alike s t) (r : Word) : Alike (writeResult r s) (writeResult r t) := by
  obtain ⟨-, -, hcount, hbusy, hout⟩ := (observe_eq_iff s t).1 h.observed
  exact ⟨(observe_eq_iff _ _).2 ⟨rfl, rfl, hcount, hbusy, hout⟩, h.moves, h.resetSeen, h.range⟩

theorem alike_clearCount (h : Alike s t) : Alike (clearCount s) (clearCount t) := by
  obtain ⟨hresult, hstatus, -, hbusy, hout⟩ := (observe_eq_iff s t).1 h.observed
  exact ⟨(observe_eq_iff _ _).2 ⟨hresult, hstatus, rfl, hbusy, hout⟩, h.moves, h.resetSeen, h.range⟩

theorem alike_countOne (h : Alike s t) : Alike (countOne s) (countOne t) := by
  obtain ⟨hresult, hstatus, hcount, hbusy, hout⟩ := (observe_eq_iff s t).1 h.observed
  exact ⟨(observe_eq_iff _ _).2 ⟨hresult, hstatus, by simp [hcount], hbusy, hout⟩, h.moves, h.resetSeen, h.range⟩

/-- R114: an accepted ENUM overwrites every hidden register, so nothing of their old contents is left. -/
theorem alike_beginEnum (h : Alike s t) (a b : Word) (e g : Word64) :
    Alike (beginEnum a b e g s) (beginEnum a b e g t) := by
  obtain ⟨hresult, -, -, -, hout⟩ := (observe_eq_iff s t).1 h.observed
  exact ⟨(observe_eq_iff _ _).2 ⟨hresult, rfl, rfl, rfl, hout⟩, h.moves, h.resetSeen, fun _ => ⟨rfl, rfl, rfl, rfl, rfl⟩⟩

/-- R119: whether a running unit takes a sample, and which, is decided by the range. -/
theorem alike_sampleCurrent (h : Alike s t) (hb : s.busy = true) : Alike (sampleCurrent s) (sampleCurrent t) := by
  obtain ⟨hresult, hstatus, hcount, hbusy, hout⟩ := (observe_eq_iff s t).1 h.observed
  obtain ⟨hcur, hlast, hhi, heps, hbudget⟩ := h.range hb
  refine ⟨(observe_eq_iff _ _).2 ?_, by simp [h.moves], by simp [h.resetSeen], fun _ => ?_⟩
  · simp [hresult, hstatus, hcount, hbusy, hout, hcur, hlast, heps]
  · simp [SameRange, hcur, hlast, hhi, heps, hbudget]

theorem alike_advanceTo (h : Alike s t) (r : Word) : Alike (advanceTo r s) (advanceTo r t) := by
  refine ⟨h.observed, h.moves, h.resetSeen, fun hb => ?_⟩
  obtain ⟨-, hlast, hhi, heps, hbudget⟩ := h.range hb
  exact ⟨rfl, hlast, hhi, heps, hbudget⟩

/-- R105: STEP reads its operand alone. -/
theorem alike_completeStep (h : Alike s t) (a : Word) : Alike (completeStep a s) (completeStep a t) := by
  unfold completeStep
  cases next32 a with
  | value r => exact alike_writeResult h r
  | atInfinity => exact alike_raiseError h _
  | invalidInput => exact alike_raiseError h _

theorem outcomesAlike_endOrAdvance (h : Alike s t) (hb : s.busy = true) :
    OutcomesAlike (endOrAdvance s) (endOrAdvance t) := by
  obtain ⟨hcur, -, hhi, -, -⟩ := h.range hb
  unfold endOrAdvance
  rw [hcur, hhi]
  split
  · exact .next (alike_finishRun h)
  · cases next32 t.cur with
    | value r => exact .next (alike_advanceTo h r)
    | atInfinity => exact .next (alike_raiseError h _)
    | invalidInput => exact .fault _

/-- R120: a tick reads COUNT and the range, which running units that are alike share. -/
theorem outcomesAlike_tick (h : Alike s t) (hb : s.busy = true) : OutcomesAlike (tick s) (tick t) := by
  obtain ⟨-, -, hcount, -, -⟩ := (observe_eq_iff s t).1 h.observed
  obtain ⟨hcur, hlast, -, -, hbudget⟩ := h.range hb
  have hg : budgetSpent s = budgetSpent t := by simp [budgetSpent, hcount, hbudget]
  unfold tick
  rw [hg, hcur, hlast]
  split_ifs
  · exact .next (alike_raiseError h _)
  · exact outcomesAlike_endOrAdvance (alike_sampleCurrent (alike_countOne h) hb) (by simpa using hb)
  · exact .fault _

theorem outcomesAlike_execStep (h : Alike s t) (a : Word) : OutcomesAlike (execStep a s) (execStep a t) := by
  obtain ⟨-, -, -, hbusy, -⟩ := (observe_eq_iff s t).1 h.observed
  unfold execStep
  rw [hbusy, h.resetSeen]
  split_ifs
  · exact .next h
  · exact .next (alike_completeStep h a)
  · exact .refused _

theorem outcomesAlike_execEnum (h : Alike s t) (a b : Word) (e g : Word64) :
    OutcomesAlike (execEnum a b e g s) (execEnum a b e g t) := by
  obtain ⟨-, -, -, hbusy, -⟩ := (observe_eq_iff s t).1 h.observed
  unfold execEnum
  rw [hbusy, h.resetSeen]
  split_ifs
  · exact .next h
  · exact .next (alike_beginEnum h a b e g)
  · exact .next (alike_raiseError (alike_clearCount h) _)
  · exact .refused _

theorem outcomesAlike_exec (h : Alike s t) (i : Instr) : OutcomesAlike (exec i s) (exec i t) := by
  cases i with
  | step a => exact outcomesAlike_execStep h a
  | enum a b e g => exact outcomesAlike_execEnum h a b e g

/-- R175: units that are alike make alike steps. -/
theorem outcomesAlike_step (h : Alike s t) : OutcomesAlike (step s) (step t) := by
  obtain ⟨-, -, -, hbusy, -⟩ := (observe_eq_iff s t).1 h.observed
  have hin : hostInput s = hostInput t := by simp [hostInput, h.moves]
  have h' := alike_beginStep h
  unfold step
  rw [hin, ← hbusy]
  split_ifs with hr hb
  · exact .next (alike_resetUnit h')
  · exact outcomesAlike_tick h' hb
  · exact outcomesAlike_exec h' _
  · exact .next h'

/-- Units that are alike stay so over any number of steps. -/
theorem outcomesAlike_run (n : Nat) (h : Alike s t) : OutcomesAlike (run n s) (run n t) := by
  induction n generalizing s t with
  | zero => exact .next h
  | succ n ih =>
    have hstep := outcomesAlike_step h
    unfold run
    generalize step s = o, step t = p at hstep
    cases hstep with
    | next h' => exact ih h'
    | fault f => exact .fault f
    | refused r => exact .refused r

end Alike

theorem OutcomesAlike.observeOutcome_eq {o p : Host.Outcome State Fault Refusal} (h : OutcomesAlike o p) :
    observeOutcome o = observeOutcome p := by
  cases h with
  | next h => exact congrArg Host.Outcome.next h.observed
  | fault f => rfl
  | refused r => rfl

/-- Settles O54: ready units that show the same are alike whatever their hidden registers hold, and every step keeps that. -/
theorem hiddenRegistersDoNotLeak : Obligations.HiddenRegistersDoNotLeak := by
  intro n s t hs _ hobs hmoves hseen
  exact (outcomesAlike_run n ⟨hobs, hmoves, hseen, by simp [hs]⟩).observeOutcome_eq

/-! ## The registers and the ports (10_state R27, R32) -/

/-- Settles O52: each port is the register itself. -/
theorem outputPortsShowTheRegisters : Obligations.OutputPortsShowTheRegisters :=
  fun _ => ⟨rfl, rfl, rfl, rfl, rfl⟩

/-- R27: the contents of every register fit its width. -/
theorem regValue_lt (s : State) : ∀ r : Reg, regValue s r < 2 ^ regWidth r
  | .result => s.result.isLt
  | .status => s.status.isLt
  | .count => s.count.isLt
  | .busy => s.busy.toNat_lt
  | .cur => s.cur.isLt
  | .last => s.last.isLt
  | .hi => s.hi.isLt
  | .eps => s.eps.isLt
  | .budget => s.budget.isLt

/-- R27: the host reads the registers numbered 0 to 3, whole. -/
theorem hostRead_of_le {r : Reg} (s : State) (h : regNumber r ≤ 3) : hostRead s r = some (regValue s r) := if_pos h

/-- R27: the host reads nothing of the registers numbered 4 to 8. -/
theorem hostRead_of_gt {r : Reg} (s : State) (h : ¬ regNumber r ≤ 3) : hostRead s r = none := if_neg h

/-- Settles O53: by the registers' numbers and widths. -/
theorem hostReadsFourRegisters : Obligations.HostReadsFourRegisters := fun s =>
  ⟨hostRead_of_le s (by decide), hostRead_of_le s (by decide), hostRead_of_le s (by decide), hostRead_of_le s (by decide),
    hostRead_of_gt s (by decide), hostRead_of_gt s (by decide), hostRead_of_gt s (by decide), hostRead_of_gt s (by decide),
    hostRead_of_gt s (by decide), regValue_lt s⟩

end Sys2Proof.Machine

/-! # Commands and their encoding (30_encoding): the command word, STEP's ignored fields, the mask table, illegal operands

The command word is the five fields of the port side by side, so splitting it gives back the fields it was joined from. A pattern is
likewise its three fields side by side, so masking it is masking each of its fields. -/

namespace Sys2Proof.Machine

/-! ## The command word and its decoder (30 R55, R56) -/

/-- R56: joining the wires into a command word and splitting it again gives the wires back. -/
@[simp] theorem splitWord_joinWord (c : Command) : splitWord (joinWord c) = c := by
  simp only [splitWord, joinWord, BitVec.extractLsb'_cast, BitVec.extractLsb'_append_eq_of_le, Nat.reduceLeDiff,
    Nat.reduceSub, BitVec.extractLsb'_append_eq_right, BitVec.extractLsb'_eq_self]

/-- R56: the fields of a command word given as a number, each cut out by a division. -/
theorem splitWord_ofNat {w : Nat} (h : w < 2 ^ 193) : splitWord (BitVec.ofNat 193 w) =
    ⟨BitVec.ofNat 1 (w / 2 ^ 192), BitVec.ofNat 32 (w / 2 ^ 160), BitVec.ofNat 32 (w / 2 ^ 128),
      BitVec.ofNat 64 (w / 2 ^ 64), BitVec.ofNat 64 w⟩ := by
  have hw : (BitVec.ofNat 193 w).toNat = w := Nat.mod_eq_of_lt h
  simp only [splitWord, BitVec.extractLsb', hw, Nat.shiftRight_eq_div_pow, pow_zero, Nat.div_one]

/-- R55 to R58: the decoder undoes the encoder at the port, for both commands. -/
@[simp] theorem decode_encode : ∀ i : Instr, decode (encode i) = i
  | .step a => (Laws.PortRoundTrip.step a).2
  | .enum a b eps budget => (Laws.PortRoundTrip.enum a b eps budget).2

theorem decode_of_op_zero {c : Command} (h : c.op = 0#1) : decode c = .step c.a := if_pos h

theorem decodeTableWord_of_lt {n w : Nat} (h : w < 2 ^ 193) :
    decodeTableWord n w = some (decode (splitWord (BitVec.ofNat 193 w))) := by
  simp only [decodeTableWord, decodeWord, isCommandWord, h, decide_true, if_true]

theorem decodeTableWord_of_le {n w : Nat} (h : 2 ^ 193 ≤ w) : decodeTableWord n w = none := by
  simp only [decodeTableWord, decodeWord, isCommandWord, not_lt.2 h, decide_false, Bool.false_eq_true, if_false]

/-- Settles O1: the word splits into the wires it was joined from, and the decoder undoes the encoder there. -/
theorem decodeOfEncodeIsTheCommand : Obligations.DecodeOfEncodeIsTheCommand := by
  intro i
  rw [decodeTableWord_of_lt (encodeWord i).isLt, BitVec.ofNat_toNat, BitVec.setWidth_eq, encodeWord, splitWord_joinWord,
    decode_encode]

/-- R56: STEP's match: the mask leaves nothing when bit 192 is 0. -/
theorem and_opcodeMask_eq_zero_iff (w : Nat) : w &&& 2 ^ 192 = 0 ↔ w / 2 ^ 192 % 2 = 0 := by
  simp [Nat.and_two_pow, Nat.testBit_eq_decide_div_mod_eq, -Nat.reducePow]

/-- R56: ENUM's match: the mask leaves itself when bit 192 is 1. -/
theorem and_opcodeMask_eq_self_iff (w : Nat) : w &&& 2 ^ 192 = 2 ^ 192 ↔ w / 2 ^ 192 % 2 = 1 := by
  simp [Nat.and_two_pow, Nat.testBit_eq_decide_div_mod_eq, -Nat.reducePow]

/-- Settles O2: bit 192 is 0 or 1, and each operand is cut out by its own division. -/
theorem commandWordFieldsDecode : Obligations.CommandWordFieldsDecode := by
  intro w hw
  rw [decodeTableWord_of_lt hw, splitWord_ofNat hw, and_opcodeMask_eq_zero_iff, and_opcodeMask_eq_self_iff]
  refine ⟨fun h => ?_, fun h => ?_, Nat.mod_two_eq_zero_or_one _⟩
  · have hop : BitVec.ofNat 1 (w / 2 ^ 192) = 0#1 := BitVec.eq_of_toNat_eq h
    rw [decode_of_op_zero hop]
  · have hop : BitVec.ofNat 1 (w / 2 ^ 192) = 1#1 := BitVec.eq_of_toNat_eq h
    rw [decode_of_op_one hop]

/-- Settles O3: such a number is no command word. -/
theorem wordsWiderThanThePortAreRefused : Obligations.WordsWiderThanThePortAreRefused :=
  fun _ h => decodeTableWord_of_le h

/-- Settles O4: the two words evaluated. -/
theorem writtenWordsDecode : Obligations.WrittenWordsDecode := ⟨by decide, by decide⟩

/-! ## The fields STEP ignores (30 R57) -/

/-- R30, R175: of the command wires a step sees only the decoded command. -/
theorem step_eq_of_decode_eq (s : State) (rest : List HostMove) (rst cmdValid : Bool) {c c' : Command}
    (h : decode c = decode c') :
    step { s with moves := ⟨rst, cmdValid, c⟩ :: rest } = step { s with moves := ⟨rst, cmdValid, c'⟩ :: rest } := by
  simp [step, hostInput, beginStep, h]

/-- Settles O5: with `cmd_op` 0 the decoder reads `cmd_a` alone, and a step sees only the decoded command. -/
theorem stepIgnoresItsOtherFields : Obligations.StepIgnoresItsOtherFields :=
  ⟨fun _ _ _ _ => decode_of_op_zero rfl, fun s rest rst cmdValid _ _ _ _ _ _ _ =>
    step_eq_of_decode_eq s rest rst cmdValid ((decode_of_op_zero rfl).trans (decode_of_op_zero rfl).symm)⟩

/-! ## The classifier's mask and match table (30 R62) -/

theorem signOf_and (p q : Word) : signOf (p &&& q) = signOf p &&& signOf q := by
  simp only [signOf, BitVec.ushiftRight_and_distrib, ← BitVec.setWidth_and]
  ac_rfl

theorem exponentOf_and (p q : Word) : exponentOf (p &&& q) = exponentOf p &&& exponentOf q := by
  simp only [exponentOf, BitVec.ushiftRight_and_distrib, ← BitVec.setWidth_and]
  ac_rfl

theorem mantissaOf_and (p q : Word) : mantissaOf (p &&& q) = mantissaOf p &&& mantissaOf q := by
  simp only [mantissaOf, ← BitVec.setWidth_and]
  ac_rfl

/-- R78, R79: a pattern is the packing of its three fields and of no others. -/
theorem eq_pack_iff (p : Word) (S : BitVec 1) (E : BitVec 8) (M : BitVec 23) :
    p = pack S E M ↔ signOf p = S ∧ exponentOf p = E ∧ mantissaOf p = M := by
  have hp := p.isLt
  have hS := S.isLt
  have hE := E.isLt
  have hM := M.isLt
  simp only [← BitVec.toNat_inj, pack_toNat, signOf_toNat, exponentOf_toNat, mantissaOf_toNat]
  omega

/-- R79: unpacking gives back the fields that were packed. -/
theorem fields_pack (S : BitVec 1) (E : BitVec 8) (M : BitVec 23) :
    signOf (pack S E M) = S ∧ exponentOf (pack S E M) = E ∧ mantissaOf (pack S E M) = M :=
  (eq_pack_iff _ S E M).1 rfl

/-- R62: a mask and match pair hits a pattern exactly when it hits in each of the three fields. -/
theorem and_pack_eq_pack_iff (p : Word) (S S' : BitVec 1) (E E' : BitVec 8) (M M' : BitVec 23) :
    p &&& pack S E M = pack S' E' M' ↔
      signOf p &&& S = S' ∧ exponentOf p &&& E = E' ∧ mantissaOf p &&& M = M' := by
  obtain ⟨hs, he, hm⟩ := fields_pack S E M
  rw [eq_pack_iff, signOf_and, exponentOf_and, mantissaOf_and, hs, he, hm]

/-- R62: the seven rows written by fields: each mask covers a field whole or not at all. -/
theorem classRows_eq : classRows =
    [⟨pack 0#1 (.allOnes 8) 0#23, pack 0#1 expSpecial 0#23, .nanInf⟩,
     ⟨pack (.allOnes 1) (.allOnes 8) (.allOnes 23), pack 0#1 expMaxFinite mantMax, .posMax⟩,
     ⟨pack (.allOnes 1) (.allOnes 8) (.allOnes 23), pack 1#1 0#8 0#23, .negZero⟩,
     ⟨pack (.allOnes 1) 0#8 (.allOnes 23), pack 0#1 0#8 mantMax, .posCarry⟩,
     ⟨pack (.allOnes 1) 0#8 (.allOnes 23), pack 1#1 0#8 0#23, .negBorrow⟩,
     ⟨pack (.allOnes 1) 0#8 0#23, pack 0#1 0#8 0#23, .posInc⟩,
     ⟨pack (.allOnes 1) 0#8 0#23, pack 1#1 0#8 0#23, .negDec⟩] := by decide

/-- Settles O22: each row asks for the values of whole fields; in each branch of `classify` one row is the first to get them. -/
theorem maskTableSelectsTheClass : Obligations.MaskTableSelectsTheClass := by
  intro p
  have hsign : signOf p = 1#1 ↔ ¬ signOf p = 0#1 := by
    have := (signOf p).isLt
    bv_omega
  have hmax : expMaxFinite ≠ expSpecial := by decide
  have hzero : 0#8 ≠ expSpecial := by decide
  simp only [classifyByMask, classRows_eq, List.find?_cons, and_pack_eq_pack_iff, BitVec.and_allOnes, BitVec.and_zero,
    true_and, and_true, Bool.beq_eq_decide_eq, hsign, classify]
  split_ifs with hspecial hpos hfull hlargest hempty hleast <;> simp [*]

/-! ## Illegal operands (30 R64, 60 R138) -/

/-- R101: the stepper answers InvalidInput on the patterns that are not finite, and on no other. -/
theorem next32_eq_invalidInput_iff (p : Word) : next32 p = .invalidInput ↔ isFinite p = false := by
  rw [← Bool.not_eq_true, isFinite_iff]
  obtain ⟨hp, hn⟩ | ⟨rfl, hn⟩ | ⟨rfl, hn⟩ | ⟨hlo, hhi, hn⟩ | ⟨hp, hn⟩ := next32_cases p <;> simp [hn] <;> omega

/-- R105: of STEP's three completions one writes InvalidInput, and the operand decides which. -/
theorem completeStep_status_eq_invalidInput_iff (a : Word) (s : State) :
    (completeStep a s).status = codeOf .invalidInput ↔ isFinite a = false := by
  rw [← next32_eq_invalidInput_iff]
  obtain ⟨r, hn, h⟩ | ⟨hn, h⟩ | ⟨hn, h⟩ := completeStep_cases a s <;> simp [hn, h, codeOf, errorStatus]

theorem completeStep_of_not_finite {a : Word} (ha : isFinite a = false) (s : State) :
    completeStep a s = raiseError .invalidInput s := by
  simp [completeStep, (next32_eq_invalidInput_iff a).2 ha]

section Ready

variable {s : State} (hb : s.busy = false) (hr : s.resetSeen = true)

include hb hr

/-- R105: a ready unit that has been reset completes STEP in the step that accepts it. -/
theorem exec_step_of_ready (a : Word) : exec (.step a) s = .next (completeStep a s) := by
  simp [exec, execStep, hb, hr]

/-- R114: such a unit starts an ENUM with two finite bounds. -/
theorem exec_enum_of_finite {a b : Word} (hf : (isFinite a && isFinite b) = true) (e g : Word64) :
    exec (.enum a b e g) s = .next (beginEnum a b e g s) := by
  simp only [exec, execEnum, hb, hr, hf, Bool.false_eq_true, if_false, if_true]

/-- R112: such a unit rejects an ENUM with any other bounds. -/
theorem exec_enum_of_not_finite {a b : Word} (hf : (isFinite a && isFinite b) = false) (e g : Word64) :
    exec (.enum a b e g) s = .next (rejectEnum s) := by
  simp only [exec, execEnum, hb, hr, hf, Bool.false_eq_true, if_false, if_true]

end Ready

/-- Settles O40: STEP by what the stepper answers, ENUM by whether it is rejected or started. -/
theorem illFormedOperandsCompleteWithInvalidInput : Obligations.IllFormedOperandsCompleteWithInvalidInput := by
  intro i s hb hr
  cases i with
  | step a =>
    refine ⟨_, exec_step_of_ready hb hr a, completeStep_status_eq_invalidInput_iff a s, fun ha => ?_⟩
    simp [completeStep_of_not_finite ha]
  | enum a b e g =>
    cases hf : isFinite a && isFinite b with
    | true => exact ⟨_, exec_enum_of_finite hb hr hf e g, by simp [Instr.wellFormed, hf, beginEnum, codeOf]⟩
    | false => exact ⟨_, exec_enum_of_not_finite hb hr hf e g, by simp [Instr.wellFormed, hf, rejectEnum, errorStatus]⟩

end Sys2Proof.Machine

/-! # Fields, classes and order (40_reinterpret_fields): the two views of a pattern, its class, its key, its real value

A pattern is the packing of its fields, so every statement on patterns is one on fields, or arithmetic on the pattern's number. The
reals enter through `fixed32`: `real32` is a whole number of units of 2^−149, and that number rises strictly with the magnitude. -/

namespace Sys2Proof.Machine

/-- Settles O19: both directions are 32 wires. -/
theorem reinterpretationIsTheIdentity : Obligations.ReinterpretationIsTheIdentity :=
  ⟨fun _ => ⟨rfl, rfl, rfl, rfl⟩, rfl⟩

/-! ## The real value in units of 2^−149 (40 R85, 42 R115) -/

theorem fixed32_of_sign_zero {p : Word} (h : signOf p = 0#1) : fixed32 p = fixedMag32 p := if_pos h

theorem fixed32_of_sign_one {p : Word} (h : signOf p = 1#1) : fixed32 p = -fixedMag32 p :=
  if_neg (by rw [h]; decide)

/-- R85: a subnormal counts its mantissa in units of 2^−149, a normal its significand in units of 2^(E − 150). -/
theorem real32_eq_fixed32 (p : Word) : real32 p = (2 : ℚ) ^ (-149 : ℤ) * fixed32 p := by
  have hsign : (fixed32 p : ℚ) = (-1) ^ (signOf p).toNat * fixedMag32 p := by
    obtain hs | hs := BitVec.eq_zero_or_eq_one (signOf p)
    · simp [fixed32_of_sign_zero, hs]
    · simp [fixed32_of_sign_one, hs]
  rw [hsign, real32, fixedMag32]
  split_ifs with hE
  · ring
  · have hexp : 1 ≤ (exponentOf p).toNat := by bv_omega
    have hpow : (2 : ℚ) ^ (((exponentOf p).toNat : ℤ) - 150) =
        2 ^ (-149 : ℤ) * 2 ^ ((exponentOf p).toNat - 1) := by
      rw [← zpow_natCast, ← zpow_add₀ two_ne_zero]
      congr 1
      omega
    rw [hpow, Nat.shiftLeft_eq]
    push_cast
    ring

theorem real32_posZero : real32 0x00000000#32 = 0 := by
  rw [real32_eq_fixed32, show fixed32 0x00000000#32 = 0 by decide, Int.cast_zero, mul_zero]

theorem real32_negZero : real32 0x80000000#32 = 0 := by
  rw [real32_eq_fixed32, show fixed32 0x80000000#32 = 0 by decide, Int.cast_zero, mul_zero]

/-- R79: a pattern is the packing of its own fields. -/
theorem pack_fields (p : Word) : pack (signOf p) (exponentOf p) (mantissaOf p) = p :=
  ((eq_pack_iff p _ _ _).2 ⟨rfl, rfl, rfl⟩).symm

theorem unpack_pack (S : BitVec 1) (E : BitVec 8) (M : BitVec 23) : unpack (pack S E M) = (S, E, M) := by
  obtain ⟨hs, he, hm⟩ := fields_pack S E M
  rw [unpack, hs, he, hm]

/-- Settles O20: a pattern is the packing of its fields and of no others; each zero is 0 units of 2^−149. -/
theorem fieldViewIsBijective : Obligations.FieldViewIsBijective :=
  ⟨pack_fields, unpack_pack, real32_posZero, real32_negZero⟩

/-! ## The classes by their fields (40 R81) -/

/-- Settles O21: along the branches of `classify`; the two single patterns are the packings of their fields. -/
theorem classesByFields : Obligations.ClassesByFields := by
  intro p
  have hmax : 0x7F7FFFFF#32 = pack 0#1 254#8 0x7FFFFF#23 := by decide
  have hzero : 0x80000000#32 = pack 1#1 0#8 0#23 := by decide
  have hS := (signOf p).isLt
  have hE := (exponentOf p).isLt
  have hM := (mantissaOf p).isLt
  rw [hmax, hzero, eq_pack_iff, eq_pack_iff]
  simp only [classify, expSpecial, expMaxFinite, mantMax, ← BitVec.toNat_inj, BitVec.toNat_ofNat]
  split_ifs with hspecial hpos hfull hlargest hempty hleast <;> simp only [true_iff, false_iff] <;> omega

/-! ## The key (40 R87, R88) -/

/-- R89: a pattern is its sign bit above its magnitude. -/
theorem toNat_eq_sign_mag (p : Word) : p.toNat = (signOf p).toNat * 2147483648 + (magOf p).toNat := by
  rw [signOf_toNat, magOf_toNat]
  omega

theorem key_of_sign_zero {p : Word} (h : signOf p = 0#1) : key p = (magOf p).toNat := if_pos h

theorem key_of_sign_one {p : Word} (h : signOf p = 1#1) : key p = -1 - (magOf p).toNat :=
  if_neg (by rw [h]; decide)

/-- R88: on sign 0 the bit operation leaves the magnitude as a word. -/
theorem keyBits_of_sign_zero {p : Word} (h : signOf p = 0#1) : keyBits p = (magOf p).setWidth 32 := by
  rw [keyBits, if_pos h, ← BitVec.toNat_inj, BitVec.toNat_setWidth, toNat_eq_sign_mag, h, BitVec.toNat_ofNat]
  have hmag := (magOf p).isLt
  omega

/-- R88: on sign 1 the bit operation complements the magnitude and keeps the sign: it complements the magnitude as a word. -/
theorem keyBits_of_sign_one {p : Word} (h : signOf p = 1#1) : keyBits p = ~~~(magOf p).setWidth 32 := by
  have hmask : ∀ i < 31, (0x7FFFFFFF#32).getLsbD i = true := by decide
  have hmsb : p.msb = true := by
    rw [BitVec.msb_eq_decide, decide_eq_true_iff, toNat_eq_sign_mag, h]
    exact Nat.le_add_right _ _
  rw [BitVec.msb_eq_getLsbD_last] at hmsb
  rw [keyBits, if_neg (by rw [h]; decide)]
  apply BitVec.eq_of_getLsbD_eq
  intro i hi
  obtain hlow | rfl : i < 31 ∨ i = 31 := by omega
  · rw [BitVec.getLsbD_xor, hmask i hlow]
    simp [magOf, hlow, hi]
  · simpa [magOf] using hmsb

/-- R88: a magnitude is a nonnegative i32, and the complement of x is −1 − x. -/
theorem toInt_keyBits (p : Word) : (keyBits p).toInt = key p := by
  have hmag := (magOf p).isLt
  obtain h | h := BitVec.eq_zero_or_eq_one (signOf p)
  · rw [keyBits_of_sign_zero h, key_of_sign_zero h, BitVec.toInt_eq_toNat_cond, BitVec.toNat_setWidth]
    omega
  · rw [keyBits_of_sign_one h, key_of_sign_one h, BitVec.toInt_eq_toNat_cond, BitVec.toNat_not, BitVec.toNat_setWidth]
    omega

/-- R87: within one sign the order of the patterns' numbers is that of the keys, and every sign-1 key is negative. -/
theorem leTotal_iff (p q : Word) : LeTotal p q ↔ key p ≤ key q := by
  have hp := p.isLt
  have hq := q.isLt
  simp only [LeTotal, ← BitVec.toNat_inj, signOf_toNat, key_eq, BitVec.toNat_ofNat]
  split <;> split <;> omega

/-- R88: the two ends of the interval are the keys of the largest finite pattern of each sign. -/
theorem key_mem_interval {p : Word} (h : isFinite p = true) : -2139095040 ≤ key p ∧ key p ≤ 2139095039 := by
  have hp := p.isLt
  rw [isFinite_iff] at h
  rw [key_eq]
  split <;> omega

/-- R88: a key n ≥ 0 is that of the pattern numbered n, a key n < 0 that of the pattern numbered 2^31 − 1 − n. -/
theorem exists_key_eq {n : Int} (hlo : -2139095040 ≤ n) (hhi : n ≤ 2139095039) : ∃ p : Word, isFinite p = true ∧ key p = n := by
  obtain hn | hn := le_or_gt 0 n
  · refine ⟨BitVec.ofNat 32 n.toNat, ?_, ?_⟩
    · rw [isFinite_iff, BitVec.toNat_ofNat]; omega
    · rw [key_eq, BitVec.toNat_ofNat]; split <;> omega
  · refine ⟨BitVec.ofNat 32 (2147483647 - n).toNat, ?_, ?_⟩
    · rw [isFinite_iff, BitVec.toNat_ofNat]; omega
    · rw [key_eq, BitVec.toNat_ofNat]; split <;> omega

theorem magOf_eq_extractLsb' (p : Word) : magOf p = p.extractLsb' 0 31 := BitVec.setWidth_eq_extractLsb' (by decide)

/-- Settles O23: value, bit form, order, injectivity and image, each a lemma above. -/
theorem keyIsTheTotalOrder : Obligations.KeyIsTheTotalOrder := by
  refine ⟨fun p h => ?_, fun p h => ?_, fun p => (toInt_keyBits p).symm, fun p q _ _ => leTotal_iff p q,
    fun p q _ _ => key_injective, fun n => ⟨fun ⟨hlo, hhi⟩ => exists_key_eq hlo hhi, ?_⟩⟩
  · rw [key_of_sign_zero h, magOf_eq_extractLsb']
  · rw [key_of_sign_one h, magOf_eq_extractLsb']
  · rintro ⟨p, hf, rfl⟩
    exact key_mem_interval hf

/-! ## The key and the reals (40 R90) -/

/-- R89: the magnitude is the exponent above the mantissa. -/
theorem magOf_eq_fields (p : Word) : (magOf p).toNat = (exponentOf p).toNat * 8388608 + (mantissaOf p).toNat := by
  rw [magOf_toNat, exponentOf_toNat, mantissaOf_toNat]
  omega

/-- R85: a magnitude with exponent E is less than 2^23 · 2^E units. -/
theorem fixedMag32_lt (p : Word) : fixedMag32 p < 8388608 * 2 ^ (exponentOf p).toNat := by
  have hM := (mantissaOf p).isLt
  rw [fixedMag32]
  split_ifs with hE
  · simpa [hE] using hM
  · obtain ⟨n, hn⟩ := Nat.exists_eq_add_one.2 (show 0 < (exponentOf p).toNat by bv_omega)
    calc (2 ^ 23 + (mantissaOf p).toNat) <<< ((exponentOf p).toNat - 1)
        = (2 ^ 23 + (mantissaOf p).toNat) * 2 ^ n := by rw [hn, Nat.add_sub_cancel, Nat.shiftLeft_eq]
      _ < 2 ^ 24 * 2 ^ n := Nat.mul_lt_mul_of_pos_right (by omega) (Nat.two_pow_pos n)
      _ = 8388608 * 2 ^ (exponentOf p).toNat := by rw [hn, pow_succ]; ring

/-- R85: a normal magnitude with exponent E is at least 2^23 · 2^(E − 1) units. -/
theorem le_fixedMag32 {p : Word} (h : 0 < (exponentOf p).toNat) : 8388608 * 2 ^ ((exponentOf p).toNat - 1) ≤ fixedMag32 p := by
  rw [fixedMag32, if_neg (by bv_omega), Nat.shiftLeft_eq]
  exact Nat.mul_le_mul_right _ (Nat.le_add_right _ _)

/-- R85, R89: the value of a magnitude rises strictly with its bits: by the exponents, and by the mantissas where they agree. -/
theorem fixedMag32_lt_of_magOf_lt {p q : Word} (h : (magOf p).toNat < (magOf q).toNat) : fixedMag32 p < fixedMag32 q := by
  have hMp := (mantissaOf p).isLt
  have hMq := (mantissaOf q).isLt
  rw [magOf_eq_fields, magOf_eq_fields] at h
  obtain hE | hE : (exponentOf p).toNat < (exponentOf q).toNat ∨ exponentOf p = exponentOf q := by bv_omega
  · calc fixedMag32 p < 8388608 * 2 ^ (exponentOf p).toNat := fixedMag32_lt p
      _ ≤ 8388608 * 2 ^ ((exponentOf q).toNat - 1) :=
        Nat.mul_le_mul_left _ (Nat.pow_le_pow_right (by decide) (by omega))
      _ ≤ fixedMag32 q := le_fixedMag32 (by omega)
  · have hM : (mantissaOf p).toNat < (mantissaOf q).toNat := by rw [hE] at h; omega
    rw [fixedMag32, fixedMag32, hE]
    split_ifs
    · exact hM
    · rw [Nat.shiftLeft_eq, Nat.shiftLeft_eq]
      exact Nat.mul_lt_mul_of_pos_right (Nat.add_lt_add_left hM _) (Nat.two_pow_pos _)

theorem fixedMag32_pos {p : Word} (h : 0 < (magOf p).toNat) : 0 < fixedMag32 p :=
  lt_of_le_of_lt (Nat.zero_le _) (fixedMag32_lt_of_magOf_lt (p := 0#32) h)

/-- R90 in units of 2^−149: within a sign by the magnitudes; across the signs both are 0 only at the two zeros. -/
theorem fixed32_lt_of_key_lt {p q : Word} (h : key p < key q) :
    fixed32 p < fixed32 q ∨ (p = 0x80000000#32 ∧ q = 0x00000000#32) := by
  obtain hp | hp := BitVec.eq_zero_or_eq_one (signOf p) <;> obtain hq | hq := BitVec.eq_zero_or_eq_one (signOf q)
  · rw [key_of_sign_zero hp, key_of_sign_zero hq] at h
    have hmag : fixedMag32 p < fixedMag32 q := fixedMag32_lt_of_magOf_lt (by omega)
    rw [fixed32_of_sign_zero hp, fixed32_of_sign_zero hq]
    omega
  · rw [key_of_sign_zero hp, key_of_sign_one hq] at h
    omega
  · rw [fixed32_of_sign_one hp, fixed32_of_sign_zero hq]
    by_cases hzero : p = 0x80000000#32 ∧ q = 0x00000000#32
    · exact .inr hzero
    · left
      have hmag : 0 < (magOf p).toNat ∨ 0 < (magOf q).toNat := by
        contrapose! hzero
        rw [← BitVec.toNat_inj, ← BitVec.toNat_inj, toNat_eq_sign_mag p, toNat_eq_sign_mag q, hp, hq]
        simpa using hzero
      have := hmag.imp fixedMag32_pos fixedMag32_pos
      omega
  · rw [key_of_sign_one hp, key_of_sign_one hq] at h
    have hmag : fixedMag32 q < fixedMag32 p := fixedMag32_lt_of_magOf_lt (by omega)
    rw [fixed32_of_sign_one hp, fixed32_of_sign_one hq]
    omega

/-- R90: the smaller key has the smaller real value, but for the two zeros. -/
theorem real32_lt_of_key_lt {p q : Word} (h : key p < key q) :
    real32 p < real32 q ∨ (p = 0x80000000#32 ∧ q = 0x00000000#32) := by
  rw [real32_eq_fixed32, real32_eq_fixed32, mul_lt_mul_iff_right₀ (by positivity), Int.cast_lt]
  exact fixed32_lt_of_key_lt h

/-- R90: equal keys are equal patterns, and the zeros have one value. -/
theorem real32_le_of_key_le {p q : Word} (h : key p ≤ key q) : real32 p ≤ real32 q := by
  obtain hlt | heq := h.lt_or_eq
  · obtain hr | ⟨rfl, rfl⟩ := real32_lt_of_key_lt hlt
    · exact hr.le
    · rw [real32_negZero, real32_posZero]
  · rw [key_injective heq]

/-- Settles O24: each part is the contrapositive or the strict form of the order of the reals along the keys. -/
theorem keyOrderAgreesWithTheReals : Obligations.KeyOrderAgreesWithTheReals := fun _ _ _ _ =>
  ⟨fun h => ⟨real32_le_of_key_le h.le, fun heq => (real32_lt_of_key_lt h).resolve_left heq.not_lt⟩,
    fun h => lt_of_not_ge fun hle => h.not_ge (real32_le_of_key_le hle)⟩

end Sys2Proof.Machine

/-! # The stepper and STEP (41_step): the regions, the adder, the successor, and what STEP writes

What the stepper answers is read off the operand's number (`next32_cases`, `next32_value`): a step raises the key by one, and the
real value follows the key. STEP in a ready unit writes RESULT and STATUS and nothing else. -/

namespace Sys2Proof.Machine

/-! ## The regions by fields (41 R93, R94, R98, R99, R101) -/

/-- R92: the stepper on a pattern given by its fields, region by region. -/
theorem next32_pack (S : BitVec 1) (E : BitVec 8) (M : BitVec 23) : next32 (pack S E M) =
    if E = expSpecial then .invalidInput
    else if S = 0#1 then
      if M = mantMax then
        if E = expMaxFinite then .atInfinity else .value (pack 0#1 (E + 1#8) 0#23)
      else .value (pack 0#1 E (M + 1#23))
    else if M = 0#23 then
      if E = 0#8 then .value 0x00000000#32 else .value (pack 1#1 (E - 1#8) mantMax)
    else .value (pack 1#1 E (M - 1#23)) := by
  obtain ⟨hs, he, hm⟩ := fields_pack S E M
  rw [next32, classify, hs, he, hm]
  split_ifs <;> simp only [stepPosCarry, stepPosInc, stepNegZero, stepNegBorrow, stepNegDec, he, hm]

/-- Settles O25: each range of fields selects one region of `next32_pack`. -/
theorem nextByRegion : Obligations.NextByRegion := by
  intro E M
  have hne : E.toNat ≤ 254 → E ≠ expSpecial := by rintro h rfl; exact absurd h (by decide)
  refine ⟨fun hE hM => ?_, fun hE => ?_, fun hE hM => ?_, fun hlo hE => ?_, fun S => ?_⟩
  · have hfull : M ≠ mantMax := by rintro rfl; exact absurd hM (by decide)
    rw [next32_pack, if_neg (hne hE), if_pos rfl, if_neg hfull]
  · have hmax : E ≠ expMaxFinite := by rintro rfl; exact absurd hE (by decide)
    rw [next32_pack, if_neg (hne (by omega)), if_pos rfl, mantMax, if_pos rfl, if_neg hmax]
  · have hempty : M ≠ 0#23 := by rintro rfl; exact absurd hM (by decide)
    rw [next32_pack, if_neg (hne hE), if_neg (by decide), if_neg hempty]
  · have hzero : E ≠ 0#8 := by rintro rfl; exact absurd hlo (by decide)
    rw [next32_pack, if_neg (hne hE), if_neg (by decide), if_pos rfl, if_neg hzero, mantMax]
  · exact (next32_pack S expSpecial M).trans (if_pos rfl)

/-! ## When the stepper answers what (41 R96, R101) -/

/-- R96: the largest finite pattern, and it alone, has no next value. -/
theorem next32_eq_atInfinity_iff (p : Word) : next32 p = .atInfinity ↔ p = 0x7F7FFFFF#32 := by
  refine ⟨fun h => ?_, by rintro rfl; decide⟩
  obtain ⟨-, hn⟩ | ⟨hp, -⟩ | ⟨-, hn⟩ | ⟨-, -, hn⟩ | ⟨-, hn⟩ := next32_cases p
  case inr.inl => exact hp
  all_goals simp [hn] at h

/-- R93 to R99: every other finite pattern has one. -/
theorem exists_next32_eq_value {p : Word} (hf : isFinite p = true) (hp : p ≠ 0x7F7FFFFF#32) : ∃ r, next32 p = .value r := by
  cases hn : next32 p with
  | value r => exact ⟨r, rfl⟩
  | atInfinity => exact absurd ((next32_eq_atInfinity_iff p).1 hn) hp
  | invalidInput => simp [(next32_eq_invalidInput_iff p).1 hn] at hf

/-- Settles O26: no answer has exponent 255 because every answer is finite. -/
theorem exponentCeiling : Obligations.ExponentCeiling :=
  ⟨next32_eq_atInfinity_iff, fun _ _ h => by simpa [isFinite, expSpecial] using isFinite_of_next32_value h, by decide⟩

/-! ## The sign and the real value of an answer (41 R97, R104) -/

/-- R104 (b): but for −0, a step stays on its side of 2^31. -/
theorem signOf_of_next32_value {p r : Word} (h : next32 p = .value r) (hp : p ≠ 0x80000000#32) : signOf r = signOf p := by
  rw [← BitVec.toNat_inj, signOf_toNat, signOf_toNat]
  rw [ne_eq, ← BitVec.toNat_inj, BitVec.toNat_ofNat] at hp
  have hlt := p.isLt
  obtain ⟨hlo, hr⟩ | ⟨hzero, -⟩ | ⟨hlo, hhi, hr⟩ := next32_value h <;> omega

/-- R104 (c): but for −0, the answer is the greater real, since its key is the greater. -/
theorem real32_lt_of_next32_value {p r : Word} (h : next32 p = .value r) (hp : p ≠ 0x80000000#32) : real32 p < real32 r :=
  (real32_lt_of_key_lt (by have := key_of_next32_value h; omega)).resolve_right fun hzeros => hp hzeros.1

theorem next32_negZero : next32 0x80000000#32 = .value 0x00000000#32 := by decide

/-- Settles O27: each uniqueness is the contrapositive of what holds of every other operand. -/
theorem negativeZeroStepsToPositiveZero : Obligations.NegativeZeroStepsToPositiveZero :=
  ⟨next32_negZero, fun _ _ h hs => not_imp_comm.1 (signOf_of_next32_value h) hs,
    fun _ _ h heq => not_imp_comm.1 (real32_lt_of_next32_value h) heq.not_gt,
    real32_posZero.trans real32_negZero.symm, by decide⟩

/-- Settles O30: finiteness, sign and real order are the lemmas above; −0 steps to +0, and both are 0. -/
theorem stepperOutputs : Obligations.StepperOutputs := by
  refine fun p r h => ⟨isFinite_of_next32_value h, signOf_of_next32_value h, real32_lt_of_next32_value h, ?_⟩
  rintro rfl
  rw [next32_negZero, Next.value.injEq] at h
  exact ⟨real32_negZero, h ▸ real32_posZero⟩

/-! ## The 31-bit adder (41 R102) -/

/-- R78, R89: a sign bit above a magnitude, as a number. -/
theorem sign_append_mag_toNat (S : BitVec 1) (m : BitVec 31) : (S ++ m).toNat = S.toNat * 2147483648 + m.toNat := by
  rw [BitVec.toNat_append, ← Nat.shiftLeft_add_eq_or_of_lt m.isLt, Nat.shiftLeft_eq]

/-- Settles O28: within a sign a step moves the pattern's number by one, and the magnitude with it; at the two ends of the
magnitudes both give the same constant. -/
theorem adderFormulationIsTheSameFunction : Obligations.AdderFormulationIsTheSameFunction := by
  intro p hf
  have hnum := toNat_eq_sign_mag p
  obtain ⟨hp, hn⟩ | ⟨rfl, -⟩ | ⟨rfl, -⟩ | ⟨hlo, hhi, hn⟩ | ⟨hp, -⟩ := next32_cases p
  · have hs : signOf p = 0#1 := by rw [← BitVec.toNat_inj, signOf_toNat, BitVec.toNat_ofNat]; omega
    rw [hs, BitVec.toNat_ofNat] at hnum
    rw [hn, next32Adder, if_pos hs, if_neg (by bv_omega), Next.value.injEq, ← BitVec.toNat_inj, sign_append_mag_toNat]
    bv_omega
  · decide
  · decide
  · have hs : signOf p = 1#1 := by rw [← BitVec.toNat_inj, signOf_toNat, BitVec.toNat_ofNat]; omega
    rw [hs, BitVec.toNat_ofNat] at hnum
    rw [hn, next32Adder, if_neg (by rw [hs]; decide), if_neg (by bv_omega), Next.value.injEq, ← BitVec.toNat_inj,
      sign_append_mag_toNat]
    bv_omega
  · exact absurd hp ((isFinite_iff p).1 hf)

/-! ## The successor (41 R103) -/

theorem key_posMax : key 0x7F7FFFFF#32 = 2139095039 := by decide

theorem key_negMax : key 0xFF7FFFFF#32 = -2139095040 := by decide

/-- R103: keys are integers, so where two of them differ by one no pattern lies strictly between. -/
theorem not_leTotal_between {p q r : Word} (h : key r = key p + 1) : ¬ (LeTotal p q ∧ q ≠ p ∧ LeTotal q r ∧ q ≠ r) := by
  rw [leTotal_iff, leTotal_iff]
  rintro ⟨hpq, hqp, hqr, hqr'⟩
  have hlo : key q ≠ key p := fun he => hqp (key_injective he)
  have hhi : key q ≠ key r := fun he => hqr' (key_injective he)
  omega

/-- R103: a walk of n + 1 steps is a walk of n steps and one more. -/
theorem walk_succ_eq_some_iff (p r : Word) (n : Nat) :
    walk p (n + 1) = some r ↔ ∃ v, walk p n = some v ∧ next32 v = .value r := by
  rw [walk]
  cases walk p n with
  | none => simp
  | some v => cases hv : next32 v <;> simp [hv]

/-- R103: a walk raises the key by its length. -/
theorem key_of_walk_eq_some {p r : Word} {n : Nat} (h : walk p n = some r) : key r = key p + n := by
  induction n generalizing r with
  | zero => simp_all [walk]
  | succ n ih =>
    obtain ⟨v, hv, hr⟩ := (walk_succ_eq_some_iff p r n).1 h
    rw [key_of_next32_value hr, ih hv]
    push_cast
    ring

/-- R103: a walk from a finite pattern goes on as long as its keys stay within those of the finite patterns. -/
theorem exists_walk_eq_some {p : Word} (hf : isFinite p = true) {n : Nat} (hn : key p + n ≤ 2139095039) :
    ∃ r, walk p n = some r ∧ isFinite r = true := by
  induction n with
  | zero => exact ⟨p, rfl, hf⟩
  | succ n ih =>
    obtain ⟨v, hv, hvf⟩ := ih (by omega)
    have hkey := key_of_walk_eq_some hv
    have hmax : v ≠ 0x7F7FFFFF#32 := by
      rintro rfl
      rw [key_posMax] at hkey
      omega
    obtain ⟨r, hr⟩ := exists_next32_eq_value hvf hmax
    exact ⟨r, (walk_succ_eq_some_iff p r n).2 ⟨v, hv, hr⟩, isFinite_of_next32_value hr⟩

/-- R103: the walk from the lowest finite pattern reaches every finite pattern, after as many steps as their keys are apart. -/
theorem walk_negMax_eq_some {p : Word} (hf : isFinite p = true) : walk 0xFF7FFFFF#32 (key p + 2139095040).toNat = some p := by
  obtain ⟨hlo, hhi⟩ := key_mem_interval hf
  obtain ⟨r, hr, -⟩ := exists_walk_eq_some (p := 0xFF7FFFFF#32) (n := (key p + 2139095040).toNat) (by decide)
    (by rw [key_negMax]; omega)
  have hkey := key_of_walk_eq_some hr
  rw [key_negMax] at hkey
  rwa [key_injective (p := r) (q := p) (by omega)] at hr

/-- Settles O29: the key rises by one with each step, so it says where every walk is and how far it goes. -/
theorem nextIsTheSuccessor : Obligations.NextIsTheSuccessor := by
  refine ⟨fun p hf hp => ?_, fun p hf => ?_, ?_⟩
  · obtain ⟨r, hr⟩ := exists_next32_eq_value hf hp
    have hkey := key_of_next32_value hr
    refine ⟨r, hr, isFinite_of_next32_value hr, hkey, (leTotal_iff p r).2 (by omega), ?_, fun q _ => not_leTotal_between hkey⟩
    rintro rfl
    omega
  · obtain ⟨hlo, hhi⟩ := key_mem_interval hf
    refine ⟨(key p + 2139095040).toNat, by omega, walk_negMax_eq_some hf, by omega, fun m hm => ?_⟩
    have hkey := key_of_walk_eq_some hm
    rw [key_negMax] at hkey
    omega
  · exact walk_negMax_eq_some (p := 0x7F7FFFFF#32) (by decide)

/-! ## STEP (41 R105, R106) -/

/-- R105, R144: in a ready unit raising an error writes STATUS alone. -/
theorem raiseError_of_ready {s : State} (hb : s.busy = false) (k : ErrorKind) :
    raiseError k s = { s with status := codeOf (errorStatus k) } := by
  rw [raiseError, ← hb]

/-- R106: in a ready unit STEP writes RESULT and STATUS alone. -/
theorem exists_completeStep_eq {s : State} (hb : s.busy = false) (a : Word) :
    ∃ r c, completeStep a s = { s with result := r, status := c } := by
  obtain ⟨r, -, h⟩ | ⟨-, h⟩ | ⟨-, h⟩ := completeStep_cases a s
  · exact ⟨r, _, h⟩
  · exact ⟨s.result, _, h.trans (raiseError_of_ready hb _)⟩
  · exact ⟨s.result, _, h.trans (raiseError_of_ready hb _)⟩

/-- R106: what STEP writes to STATUS, and to RESULT when it completes with OK, depends on the operand alone. -/
theorem completeStep_pure (a : Word) (s s' : State) :
    (completeStep a s).status = (completeStep a s').status ∧
    ((completeStep a s).status = codeOf .ok → (completeStep a s).result = (completeStep a s').result) := by
  unfold completeStep
  cases next32 a with
  | value r => exact ⟨rfl, fun _ => rfl⟩
  | atInfinity => exact ⟨rfl, fun h => absurd h (by simp [codeOf, errorStatus])⟩
  | invalidInput => exact ⟨rfl, fun h => absurd h (by simp [codeOf, errorStatus])⟩

/-- Settles O33: a ready unit completes STEP by what the stepper answers; an error there writes STATUS alone. -/
theorem stepCompletes : Obligations.StepCompletes := by
  intro a s hb hr
  rw [exec_step_of_ready hb hr, completeStep]
  refine ⟨fun r h => ?_, fun h => ?_, fun h => ?_, exists_next32_eq_value⟩
  · rw [h]
    rfl
  · rw [(next32_eq_atInfinity_iff a).2 h]
    exact congrArg _ (raiseError_of_ready hb .atInfinity)
  · rw [(next32_eq_invalidInput_iff a).2 (by simp [isFinite, expSpecial, h])]
    exact congrArg _ (raiseError_of_ready hb .invalidInput)

/-- Settles O34: STEP is not accepted, and changes nothing, or completes in a ready unit. -/
theorem stepTouchesNothingElse : Obligations.StepTouchesNothingElse := by
  refine ⟨fun a s t h => ?_, fun a s s' t t' hb hb' h h' => ?_⟩
  · obtain ⟨-, rfl⟩ | ⟨hb, -, rfl⟩ := execStep_next h
    · simp
    · obtain ⟨r, c, he⟩ := exists_completeStep_eq hb a
      simp [he]
  · obtain ⟨hbusy, -⟩ | ⟨-, -, rfl⟩ := execStep_next h
    · simp [hb] at hbusy
    obtain ⟨hbusy, -⟩ | ⟨-, -, rfl⟩ := execStep_next h'
    · simp [hb'] at hbusy
    exact completeStep_pure a s s'

end Sys2Proof.Machine

/-! # The Range Enumerator (42_enum): the acceptance, the tick, and what a step does to COUNT, the trace and CUR

The acceptance and the tick are settled case by case from the forward lemmas below. What a step does to COUNT, the trace and CUR is
one case split, `step_trace_cases`: they are emptied, or kept in a ready unit, or moved by a tick. -/

namespace Sys2Proof.Machine

/-! ## Accepting ENUM (42 R111 to R114) -/

/-- R14: the patterns that are not finite are those with exponent 255. -/
theorem isFinite_eq_false_iff (p : Word) : isFinite p = false ↔ exponentOf p = 255#8 := by
  simp [isFinite, expSpecial]

/-- R112: in a ready unit a rejected ENUM writes STATUS, COUNT and the trace alone. -/
theorem rejectEnum_of_ready {s : State} (hb : s.busy = false) :
    rejectEnum s = { s with status := 2#3, count := 0#64, samples := [] } :=
  raiseError_of_ready (s := clearCount s) hb .invalidInput

/-- Settles O35: one bound with exponent 255 makes the unit reject the ENUM. -/
theorem enumRejectsABadBound : Obligations.EnumRejectsABadBound := by
  intro a b e g s hb hr hbad
  rw [← isFinite_eq_false_iff, ← isFinite_eq_false_iff, ← Bool.and_eq_false_iff] at hbad
  rw [exec_enum_of_not_finite hb hr hbad, rejectEnum_of_ready hb]

theorem lowerBound_self (a : Word) : lowerBound a a = a := ite_self a

theorem upperBound_self (a : Word) : upperBound a a = a := ite_self a

theorem key_lowerBound_le_key_upperBound (a b : Word) : key (lowerBound a b) ≤ key (upperBound a b) := by
  obtain ⟨hk, hlo, hup⟩ | ⟨hk, hlo, hup⟩ := bounds_cases a b <;> rw [hlo, hup]
  · exact hk
  · exact hk.le

/-- R113: with two finite operands both bounds are finite. -/
theorem isFinite_bounds {a b : Word} (ha : isFinite a = true) (hb : isFinite b = true) :
    isFinite (lowerBound a b) = true ∧ isFinite (upperBound a b) = true := by
  obtain ⟨-, hlo, hup⟩ | ⟨-, hlo, hup⟩ := bounds_cases a b <;> rw [hlo, hup]
  · exact ⟨ha, hb⟩
  · exact ⟨hb, ha⟩

/-- Settles O36: by the comparison of the keys; the zeros' keys are −1 and 0. -/
theorem boundsAreOrderedByKey : Obligations.BoundsAreOrderedByKey := by
  refine ⟨fun a b _ _ => ⟨fun h => ⟨if_pos h, if_pos h⟩, fun h => ⟨if_neg h, if_neg h⟩,
    key_lowerBound_le_key_upperBound a b⟩, fun a => ⟨lowerBound_self a, upperBound_self a⟩, ?_⟩
  decide

/-- Settles O37: two finite bounds make the unit start. -/
theorem enumStarts : Obligations.EnumStarts := by
  intro a b e g s hb hr ha hb'
  rw [exec_enum_of_finite hb hr (by rw [ha, hb', Bool.and_true])]
  rfl

/-- R113, R127 (a): the bounds are the same whichever way round the operands come, because equal keys are equal patterns. -/
theorem bounds_comm (a b : Word) : lowerBound a b = lowerBound b a ∧ upperBound a b = upperBound b a := by
  obtain ⟨hab, hlo, hup⟩ | ⟨hab, hlo, hup⟩ := bounds_cases a b <;>
    obtain ⟨hba, hlo', hup'⟩ | ⟨hba, hlo', hup'⟩ := bounds_cases b a
  · obtain rfl := key_injective (le_antisymm hab hba)
    exact ⟨rfl, rfl⟩
  · exact ⟨hlo.trans hlo'.symm, hup.trans hup'.symm⟩
  · exact ⟨hlo.trans hlo'.symm, hup.trans hup'.symm⟩
  · exact absurd hba hab.asymm

/-- Settles O38: the operands enter through the finiteness of both and through the bounds. -/
theorem orderOfBoundsIsIrrelevant : Obligations.OrderOfBoundsIsIrrelevant := by
  intro a b e g s
  obtain ⟨hlo, hup⟩ := bounds_comm a b
  simp only [exec, execEnum, beginEnum, hlo, hup, Bool.and_comm (isFinite a)]

/-- Settles O39: an ENUM is not accepted, starts, or is rejected. -/
theorem enumAcceptanceFrame : Obligations.EnumAcceptanceFrame := by
  intro a b e g s t h
  obtain ⟨-, rfl⟩ | ⟨hb, -, ha, hb', rfl⟩ | ⟨hb, -, -, rfl⟩ := execEnum_next h
  · simp
  · simp [beginEnum, ha, hb', hb]
  · simp [rejectEnum_of_ready hb, hb]

/-- Settles O45: RESULT is in the frame of both. -/
theorem enumNeverWritesResult : Obligations.EnumNeverWritesResult := by
  refine ⟨fun a b e g s t h => ?_, fun s t h => ?_⟩
  · obtain ⟨hresult, -⟩ := enumAcceptanceFrame a b e g s t h
    exact hresult
  · obtain ⟨hresult, -⟩ := tick_frame h
    exact hresult

/-! ## The tick (42 R117 to R122) -/

section Tick

variable {s t : State}

theorem tick_of_budgetSpent (hg : budgetSpent s = true) : tick s = .next (raiseError .budgetExceeded s) := if_pos hg

/-- R120: a tick that passes the budget check counts and samples, then ends or advances. -/
theorem tick_of_counting (hg : budgetSpent s = false) (hc : isFinite s.cur = true) (hl : isFinite s.last = true) :
    tick s = endOrAdvance (sampleCurrent (countOne s)) := by
  simp only [tick, hg, hc, hl, Bool.false_eq_true, if_false, Bool.and_self, if_true]

theorem endOrAdvance_of_eq (h : s.cur = s.hi) : endOrAdvance s = .next (finishRun s) := if_pos h

theorem endOrAdvance_of_value {r : Word} (h : s.cur ≠ s.hi) (hr : next32 s.cur = .value r) :
    endOrAdvance s = .next (advanceTo r s) := by
  simp only [endOrAdvance, if_neg h, hr]

/-- R121: the tick that counts HI ends the enumeration. -/
theorem tick_of_cur_eq_hi (hg : budgetSpent s = false) (hc : isFinite s.cur = true) (hl : isFinite s.last = true)
    (h : s.cur = s.hi) : tick s = .next (finishRun (sampleCurrent (countOne s))) := by
  rw [tick_of_counting hg hc hl, endOrAdvance_of_eq (by simpa using h)]

/-- R120: any other counting tick moves CUR to its next value. -/
theorem tick_of_value {r : Word} (hg : budgetSpent s = false) (hl : isFinite s.last = true) (h : s.cur ≠ s.hi)
    (hr : next32 s.cur = .value r) : tick s = .next (advanceTo r (sampleCurrent (countOne s))) := by
  have hc : isFinite s.cur = true := by
    rw [← Bool.not_eq_false, ← next32_eq_invalidInput_iff, hr]
    exact Next.noConfusion
  rw [tick_of_counting hg hc hl, endOrAdvance_of_value (by simpa using h) (by simpa using hr)]

/-- R122: what is counted and has no next value ends a tick all the same. -/
theorem exists_endOrAdvance_eq_next (h : isFinite s.cur = true) : ∃ t, endOrAdvance s = .next t := by
  unfold endOrAdvance
  split
  · exact ⟨_, rfl⟩
  · cases hn : next32 s.cur with
    | value r => exact ⟨_, rfl⟩
    | atInfinity => exact ⟨_, rfl⟩
    | invalidInput => simp [(next32_eq_invalidInput_iff s.cur).1 hn] at h

/-- R120: a tick answers a next state wherever CUR and LAST are finite. -/
theorem exists_tick_eq_next (hc : isFinite s.cur = true) (hl : isFinite s.last = true) : ∃ t, tick s = .next t := by
  cases hg : budgetSpent s with
  | true => exact ⟨_, tick_of_budgetSpent hg⟩
  | false =>
    rw [tick_of_counting hg hc hl]
    exact exists_endOrAdvance_eq_next (by simpa using hc)

/-- R120: the fault of a tick, exactly. -/
theorem tick_eq_fault_iff (f : Fault) : tick s = .fault f ↔
    f = .cursorNotFinite ∧ budgetSpent s = false ∧ (isFinite s.cur = false ∨ isFinite s.last = false) := by
  cases hg : budgetSpent s with
  | true => simp [tick_of_budgetSpent hg]
  | false =>
    cases hf : isFinite s.cur && isFinite s.last with
    | true =>
      obtain ⟨hc, hl⟩ := Bool.and_eq_true_iff.1 hf
      obtain ⟨t, ht⟩ := exists_tick_eq_next hc hl
      simp [ht, hc, hl]
    | false =>
      have htick : tick s = .fault .cursorNotFinite := by
        simp only [tick, hg, hf, Bool.false_eq_true, if_false]
      rw [htick, Host.Outcome.fault.injEq]
      exact ⟨fun h => ⟨h.symm, rfl, Bool.and_eq_false_iff.1 hf⟩, fun h => h.1.symm⟩

/-- R120 to R122: how a counting tick ends. -/
theorem tick_end (hg : budgetSpent s = false) (h : tick s = .next t) :
    (s.cur = s.hi → t.status = codeOf .ok ∧ t.busy = false ∧ t.cur = s.cur) ∧
    (s.cur ≠ s.hi → ∀ r, next32 s.cur = .value r → t.cur = r ∧ t.status = s.status ∧ t.busy = s.busy) ∧
    (s.cur ≠ s.hi → next32 s.cur = .atInfinity → t.status = codeOf .atInfinity ∧ t.busy = false ∧ t.cur = s.cur) := by
  obtain ⟨hg', -⟩ | ⟨-, -, -, ⟨hc, rfl⟩ | ⟨hc, r, hr, rfl⟩ | ⟨hc, hn, rfl⟩⟩ := tick_next h
  · simp [hg] at hg'
  · simp [hc]
  · simp [hc, hr]
  · simp [hc, hn, errorStatus]

/-- R117: only the budget check writes BudgetExceeded. -/
theorem tick_status_ne_budgetExceeded (hg : budgetSpent s = false) (hs : s.status ≠ codeOf .budgetExceeded)
    (h : tick s = .next t) : t.status ≠ codeOf .budgetExceeded := by
  obtain ⟨hg', -⟩ | ⟨-, -, -, ⟨-, rfl⟩ | ⟨-, r, -, rfl⟩ | ⟨-, -, rfl⟩⟩ := tick_next h
  · simp [hg] at hg'
  · simp [codeOf]
  · simpa using hs
  · simp [codeOf, errorStatus]

end Tick

/-- R117: in a whole step, the tick that finds the budget spent writes STATUS and BUSY alone. -/
theorem step_of_budgetSpent {s : State} (hb : s.busy = true) (hr : (hostInput s).rst = false)
    (hg : s.budget ≠ 0#64 ∧ s.count = s.budget) :
    step s = .next { s with status := 4#3, busy := false,
                            moves := s.moves.tail, sampleOut := none, draws := s.draws + 1 } := by
  rw [step_of_busy hr hb, tick_of_budgetSpent ((budgetSpent_iff (beginStep s)).2 hg)]
  rfl

/-- Settles O41: the spent budget, the ticks below it, and the tick that counts HI as the last value allowed. -/
theorem tickBudgetCheck : Obligations.TickBudgetCheck := by
  intro s hb hr
  refine ⟨fun hne hcount => step_of_budgetSpent hb hr ⟨hne, hcount⟩, fun t hleft hs h => ?_, fun _ hcount hcur hc hl => ?_⟩
  · rw [step_of_busy hr hb] at h
    exact tick_status_ne_budgetExceeded ((budgetSpent_eq_false_iff (beginStep s)).2 hleft) hs h
  · have hleft : s.count ≠ s.budget := by bv_omega
    rw [step_of_busy hr hb, tick_of_cur_eq_hi ((budgetSpent_eq_false_iff (beginStep s)).2 (.inr hleft)) hc hl hcur]
    exact ⟨_, rfl, rfl, rfl, by simpa using hcount⟩

/-- Settles O42: what a counting tick writes to COUNT, LAST, the trace and the port, how it ends, and its frame. -/
theorem tickWhole : Obligations.TickWhole := by
  intro s hb hr
  refine ⟨step_of_budgetSpent hb hr, fun hleft hc hl => ?_⟩
  have hg : budgetSpent (beginStep s) = false := (budgetSpent_eq_false_iff _).2 hleft
  obtain ⟨t, ht⟩ := exists_tick_eq_next (s := beginStep s) hc hl
  obtain ⟨hlast, hsamples, hout⟩ := tick_sample ht
  obtain ⟨hresult, hhi, heps, hbudget, -⟩ := tick_frame ht
  obtain ⟨hend, hadvance, hnone⟩ := tick_end hg ht
  have hvalid : next32 s.cur ≠ .invalidInput := by simp [next32_eq_invalidInput_iff, hc]
  refine ⟨t, (step_of_busy hr hb).trans ht, by simpa [hg] using tick_count ht, fun he => ?_, fun he => ?_, hend,
    fun hne r hn => hb ▸ hadvance hne r hn, hnone, hvalid, hresult, hhi, heps, hbudget⟩
  · have hrep : reportsCur (beginStep s) = true := (reportsCur_iff _).2 ⟨hleft, he⟩
    rw [if_pos hrep] at hlast hsamples hout
    exact ⟨hsamples, hlast, by simp [sampleValid, hout], by simp [sampleData, hout]⟩
  · have hrep : ¬ reportsCur (beginStep s) = true := by simp [reportsCur, he]
    rw [if_neg hrep] at hlast hsamples hout
    exact ⟨hsamples, hlast, by simp [sampleValid, hout]⟩

/-- A presented command stops with no fault. -/
theorem exec_ne_fault (i : Instr) (s : State) (f : Fault) : exec i s ≠ .fault f := by
  cases i with
  | step a => simp only [exec, execStep]; split_ifs <;> simp
  | enum a b e g => simp only [exec, execEnum]; split_ifs <;> simp

/-- Settles O43: of the four kinds of step the tick alone faults. -/
theorem tickStopsOnlyOnNonFiniteCursor : Obligations.TickStopsOnlyOnNonFiniteCursor := by
  intro s f
  cases hr : (hostInput s).rst with
  | true => simp [step_of_rst hr]
  | false =>
    cases hb : s.busy with
    | true => simp [step_of_busy hr hb, tick_eq_fault_iff, budgetSpent_eq_false_iff]
    | false =>
      cases hv : (hostInput s).cmdValid with
      | true => simp [step_of_command hr hb hv, exec_ne_fault]
      | false => simp [step_of_idle hr hb hv]

/-! ## What a step does to COUNT, the trace and CUR (42 R122, R127, R130) -/

section Trace

variable {s t : State}

/-- R105, R153: a ready unit that is not reset and accepts no ENUM writes RESULT and STATUS alone. -/
theorem step_of_ready_eq (hc : ¬ ClearsTrace s) (hb : s.busy = false) (h : step s = .next t) :
    ∃ r c, t = { beginStep s with result := r, status := c } := by
  obtain ⟨hr, hacc⟩ := not_or.1 hc
  rw [Bool.not_eq_true] at hr
  cases hv : (hostInput s).cmdValid with
  | true =>
    rw [step_of_command hr hb hv, decode_of_op_ne_one fun hop => hacc ⟨hb, hv, hop⟩] at h
    obtain ⟨hb', -⟩ | ⟨-, -, rfl⟩ := execStep_next h
    · simp [hb] at hb'
    · exact exists_completeStep_eq (s := beginStep s) hb _
  | false =>
    rw [step_of_idle hr hb hv, Host.Outcome.next.injEq] at h
    exact ⟨_, _, h.symm⟩

/-- R114: a unit that is BUSY after a step that empties the trace has a finite CUR, the lower bound of the ENUM just accepted. -/
theorem isFinite_cur_of_clearsTrace (hc : ClearsTrace s) (h : step s = .next t) (hb : t.busy = true) :
    isFinite t.cur = true := by
  obtain ⟨-, rfl⟩ | ⟨hr, hs, -⟩ | ⟨-, hs, -, a, -, rfl⟩ | ⟨-, -, -, a, b, e, g, -, hacc⟩ | ⟨-, hs, -, rfl⟩ := step_next h
  · simp [State.reset] at hb
  · simp [ClearsTrace, hr, hs] at hc
  · obtain ⟨r, c, he⟩ := exists_completeStep_eq (s := beginStep s) hs a
    simp [he, hs] at hb
  · obtain ⟨ha, hb', rfl⟩ | ⟨-, rfl⟩ := hacc
    · exact (isFinite_bounds ha hb').1
    · simp [rejectEnum] at hb
  · simp [hs] at hb

/-- R175: a step empties COUNT and the trace, or is another step of a ready unit, which leaves them and the range as they were, or
is a tick. -/
theorem step_trace_cases (h : step s = .next t) :
    (ClearsTrace s ∧ t.samples = [] ∧ t.count = 0#64 ∧ (t.busy = true → isFinite t.cur = true)) ∨
    (s.busy = false ∧ ∃ r c, t = { beginStep s with result := r, status := c }) ∨
    (s.busy = true ∧ (hostInput s).rst = false ∧ tick (beginStep s) = .next t) := by
  by_cases hc : ClearsTrace s
  · obtain ⟨hsamples, hcount, -⟩ := step_of_clearsTrace hc h
    exact .inl ⟨hc, hsamples, hcount, isFinite_cur_of_clearsTrace hc h⟩
  cases hb : s.busy with
  | false => exact .inr (.inl ⟨rfl, step_of_ready_eq hc hb h⟩)
  | true =>
    have hr : (hostInput s).rst = false := by simpa using fun hr => hc (.inl hr)
    exact .inr (.inr ⟨rfl, hr, step_of_busy hr hb ▸ h⟩)

/-- R120: an enumeration that goes on after a tick has moved to the next value of CUR. -/
theorem next32_of_tick_of_busy (h : tick s = .next t) (hb : t.busy = true) : next32 s.cur = .value t.cur := by
  obtain ⟨-, rfl⟩ | ⟨-, -, -, ⟨-, rfl⟩ | ⟨-, r, hr, rfl⟩ | ⟨-, -, rfl⟩⟩ := tick_next h
  case inr.inr.inl => exact hr
  all_goals simp at hb

/-- R120: a tick that passes the budget check and answers a next state found CUR finite. -/
theorem isFinite_cur_of_tick (h : tick s = .next t) (hg : budgetSpent s = false) : isFinite s.cur = true := by
  obtain ⟨hg', -⟩ | ⟨-, hc, -⟩ := tick_next h
  · simp [hg] at hg'
  · exact hc

/-- R119: the trace after a tick holds the old samples and at most CUR besides. -/
theorem mem_samples_of_tick (h : tick s = .next t) {v : Word} (hv : v ∈ t.samples) : v ∈ s.samples ∨ v = s.cur := by
  obtain ⟨-, hsamples, -⟩ := tick_sample h
  rw [hsamples] at hv
  split at hv
  · simpa using hv
  · exact .inl hv

/-- R88: every finite key lies at or above the lowest. -/
theorem countBounded_of_count_eq_zero (h0 : t.count = 0#64) (hf : t.busy = true → isFinite t.cur = true) :
    CountBounded t := by
  refine ⟨by simp [h0], fun hb => ?_⟩
  obtain ⟨hlo, -⟩ := key_mem_interval (hf hb)
  simp only [h0, BitVec.toNat_ofNat]
  omega

/-- R21, R130: below the bound the increment is exact. -/
theorem countOne_count_toNat (h : CountBounded s) : (countOne s).count.toNat = s.count.toNat + 1 := by
  obtain ⟨hle, -⟩ := h
  rw [countOne_count]
  bv_omega

/-- R130: a tick counts CUR, whose key is at most the highest, and goes on at a key greater by one. -/
theorem countBounded_tick (h : CountBounded s) (hb : s.busy = true) (ht : tick s = .next t) : CountBounded t := by
  have hone := countOne_count_toNat h
  obtain ⟨hle, hcur⟩ := h
  have hcur := hcur hb
  cases hg : budgetSpent s with
  | true =>
    rw [tick_of_budgetSpent hg, Host.Outcome.next.injEq] at ht
    subst ht
    exact ⟨hle, by simp⟩
  | false =>
    obtain ⟨-, hmax⟩ := key_mem_interval (isFinite_cur_of_tick ht hg)
    have hcount : t.count.toNat = s.count.toNat + 1 := by
      rw [tick_count ht, hg]
      exact hone
    refine ⟨by omega, fun hbusy => ?_⟩
    have hkey := key_of_next32_value (next32_of_tick_of_busy ht hbusy)
    omega

/-- R127 (f): a tick appends CUR at most, above all samples, and goes on at a greater key. -/
theorem samplesRise_tick (h : SamplesRise s) (hb : s.busy = true) (ht : tick s = .next t) : SamplesRise t := by
  obtain ⟨hrise, hfinite, hbelow⟩ := h
  have hbelow := hbelow hb
  refine ⟨?_, ?_, fun hbusy v hv => ?_⟩
  · obtain ⟨-, hsamples, -⟩ := tick_sample ht
    rw [hsamples]
    split
    · exact List.pairwise_append.2 ⟨hrise, List.pairwise_singleton _ _, by simpa using hbelow⟩
    · exact hrise
  · obtain ⟨-, hsamples, -⟩ := tick_sample ht
    rw [hsamples]
    split
    case isTrue hrep =>
      have hg : budgetSpent s = false := (budgetSpent_eq_false_iff s).2 ((reportsCur_iff s).1 hrep).1
      simpa [or_imp, forall_and] using ⟨hfinite, isFinite_cur_of_tick ht hg⟩
    case isFalse => exact hfinite
  · have hkey := key_of_next32_value (next32_of_tick_of_busy ht hbusy)
    obtain hold | rfl := mem_samples_of_tick ht hv
    · have := hbelow v hold
      omega
    · omega

/-- R127 (e): CUR, which a tick may append, lies at or below HI. -/
theorem samplesBelowHi_tick (h : SamplesBelowHi s) (hcur : key s.cur ≤ key s.hi) (ht : tick s = .next t) :
    SamplesBelowHi t := by
  intro v hv
  obtain ⟨-, hhi, -⟩ := tick_frame ht
  rw [hhi]
  obtain hold | rfl := mem_samples_of_tick ht hv
  · exact h v hold
  · exact hcur

/-- R127 (e): CUR, which a tick may append, lies at or above the bound, and never moves down. -/
theorem samplesAbove_tick {lo : Word} (h : SamplesAbove lo s) (ht : tick s = .next t) : SamplesAbove lo t := by
  obtain ⟨hcur, hsamples⟩ := h
  refine ⟨?_, fun v hv => ?_⟩
  · obtain hkeep | hnext := tick_cur ht
    · rwa [hkeep]
    · have := key_of_next32_value hnext
      omega
  · obtain hold | rfl := mem_samples_of_tick ht hv
    · exact hsamples v hold
    · exact hcur

end Trace

/-- Settles O16: COUNT is emptied, or kept in a ready unit, or counted by a tick. -/
theorem countNeverWraps : Obligations.CountNeverWraps := by
  refine fun s t h ht => ⟨?_, countOne_count_toNat h⟩
  obtain ⟨-, -, hcount, hfinite⟩ | ⟨hb, r, c, rfl⟩ | ⟨hb, -, htick⟩ := step_trace_cases ht
  · exact countBounded_of_count_eq_zero hcount hfinite
  · exact h
  · exact countBounded_tick (s := beginStep s) h hb htick

/-- Settles O18: each part holds of an emptied trace, is kept in a ready unit, and is kept by a tick. -/
theorem samplesRiseInTheTotalOrder : Obligations.SamplesRiseInTheTotalOrder := by
  refine ⟨fun s t h ht => ?_, fun s t hinv h ht => ?_, fun lo s t hc h ht => ?_⟩
  · obtain ⟨-, hsamples, -⟩ | ⟨-, r, c, rfl⟩ | ⟨hb, -, htick⟩ := step_trace_cases ht
    · simp [SamplesRise, hsamples]
    · exact h
    · exact samplesRise_tick (s := beginStep s) h hb htick
  · obtain ⟨-, hsamples, -⟩ | ⟨-, r, c, rfl⟩ | ⟨hb, -, htick⟩ := step_trace_cases ht
    · simp [SamplesBelowHi, hsamples]
    · exact h
    · exact samplesBelowHi_tick (s := beginStep s) h (hinv.cursorInRange hb).2 htick
  · obtain ⟨hc', -⟩ | ⟨-, r, c, rfl⟩ | ⟨-, -, htick⟩ := step_trace_cases ht
    · exact absurd hc' hc
    · exact h
    · exact samplesAbove_tick (s := beginStep s) h htick

end Sys2Proof.Machine

/-! # The sample test (42_enum R115, R116)

Both sides of the test are whole numbers of units of 2^−1074, so the comparison of the reals is the comparison of those numbers. -/

namespace Sys2Proof.Machine

/-! ## The real value of epsilon in units of 2^−1074 (40 R86) -/

/-- `real64` in units of 2^−1074. -/
def fixed64 (q : Word64) : Int :=
  if signOf64 q = 0#1 then (fixedMag64 q : Int) else -(fixedMag64 q : Int)

theorem fixed64_of_sign_zero {q : Word64} (h : signOf64 q = 0#1) : fixed64 q = fixedMag64 q := if_pos h

theorem fixed64_of_sign_one {q : Word64} (h : signOf64 q = 1#1) : fixed64 q = -fixedMag64 q :=
  if_neg (by rw [h]; decide)

/-- R86: an epsilon whose exponent is not 2047 is a number. -/
theorem epsValue_of_finite {q : Word64} (h : exponentOf64 q ≠ 2047#11) : epsValue q = .finite (fixed64 q) := if_neg h

/-- R86: a subnormal counts its fraction in units of 2^−1074, a normal its significand in units of 2^(E − 1075). -/
theorem real64_eq_fixed64 (q : Word64) : real64 q = (2 : ℚ) ^ (-1074 : ℤ) * fixed64 q := by
  have hsign : (fixed64 q : ℚ) = (-1) ^ (signOf64 q).toNat * fixedMag64 q := by
    obtain hs | hs := BitVec.eq_zero_or_eq_one (signOf64 q)
    · simp [fixed64_of_sign_zero, hs]
    · simp [fixed64_of_sign_one, hs]
  rw [hsign, real64, fixedMag64]
  split_ifs with hE
  · ring
  · have hexp : ((exponentOf64 q).toNat : ℤ) - 1075 = -1074 + ((exponentOf64 q).toNat - 1 : ℕ) := by bv_omega
    rw [hexp, zpow_add₀ two_ne_zero, zpow_natCast, Nat.shiftLeft_eq]
    generalize (2 : ℚ) ^ (-1074 : ℤ) = unit
    push_cast
    ring

/-! ## The test on a finite epsilon (42 R115) -/

/-- R115: a unit of 2^−149 is 2^925 units of 2^−1074. -/
theorem abs_real32_sub (cur last : Word) :
    |real32 cur - real32 last| = (2 : ℚ) ^ (-1074 : ℤ) * ((fixedDistance cur last <<< 925 : ℕ) : ℤ) := by
  have hunit : (2 : ℚ) ^ (-149 : ℤ) = 2 ^ (-1074 : ℤ) * 2 ^ 925 := by
    rw [← zpow_natCast, ← zpow_add₀ two_ne_zero]
    rfl
  rw [real32_eq_fixed32, real32_eq_fixed32, ← mul_sub, abs_mul, abs_of_pos (by positivity), ← Int.cast_sub, ← Int.cast_abs,
    Int.abs_eq_natAbs, Nat.shiftLeft_eq, hunit, fixedDistance]
  generalize (2 : ℚ) ^ (-1074 : ℤ) = unit, 925 = shift
  push_cast
  ring

/-- R115: with a finite epsilon the test compares whole numbers of units of 2^−1074. -/
theorem exceeds_iff_fixed {eps : Word64} (cur last : Word) (h : exponentOf64 eps ≠ 2047#11) :
    exceeds cur last eps = true ↔ fixed64 eps < ((fixedDistance cur last <<< 925 : ℕ) : ℤ) := by
  rw [exceeds, epsValue_of_finite h, decide_eq_true_iff]

/-- R115: the test is the strict comparison of the exact reals. -/
theorem exceeds_iff_real {eps : Word64} (cur last : Word) (h : exponentOf64 eps ≠ 2047#11) :
    exceeds cur last eps = true ↔ real64 eps < |real32 cur - real32 last| := by
  rw [exceeds_iff_fixed cur last h, real64_eq_fixed64, abs_real32_sub, mul_lt_mul_iff_right₀ (by positivity), Int.cast_lt]

/-- Settles O31: both sides of the comparison in units of 2^−1074. -/
theorem sampleTestIsTheExactRealComparison : Obligations.SampleTestIsTheExactRealComparison :=
  fun cur last _ _ _ h => exceeds_iff_real cur last h

/-! ## The test on every other epsilon (42 R116) -/

/-- R116: no difference exceeds a NaN. -/
theorem exceeds_of_nan {eps : Word64} (cur last : Word) (hE : exponentOf64 eps = 2047#11) (hF : fractionOf64 eps ≠ 0#52) :
    exceeds cur last eps = false := by
  rw [exceeds, epsValue, if_pos hE, if_neg hF]

theorem exceeds_posInf (cur last : Word) : exceeds cur last 0x7FF0000000000000#64 = false := by
  rw [exceeds, show epsValue 0x7FF0000000000000#64 = .posInf by decide]

theorem exceeds_negInf (cur last : Word) : exceeds cur last 0xFFF0000000000000#64 = true := by
  rw [exceeds, show epsValue 0xFFF0000000000000#64 = .negInf by decide]

/-- R86: an epsilon of magnitude 0 is the real number 0. -/
theorem real64_of_zero {eps : Word64} (h : eps = 0x0000000000000000#64 ∨ eps = 0x8000000000000000#64) : real64 eps = 0 := by
  have hfixed : fixed64 eps = 0 := by
    obtain rfl | rfl := h <;> decide
  rw [real64_eq_fixed64, hfixed, Int.cast_zero, mul_zero]

theorem exponentOf64_of_zero {eps : Word64} (h : eps = 0x0000000000000000#64 ∨ eps = 0x8000000000000000#64) :
    exponentOf64 eps ≠ 2047#11 := by
  obtain rfl | rfl := h <;> decide

/-- Settles O32: finite epsilons by the comparison of the reals, since a distance is not negative, and 0 only between equals. -/
theorem sampleTestOnSpecialEpsilons : Obligations.SampleTestOnSpecialEpsilons := by
  refine fun cur last eps _ _ => ⟨exceeds_of_nan cur last, ?_, ?_, fun h hneg => ?_, fun h => ?_⟩
  · rintro rfl
    exact exceeds_posInf cur last
  · rintro rfl
    exact exceeds_negInf cur last
  · exact (exceeds_iff_real cur last h).2 (hneg.trans_le (abs_nonneg _))
  · rw [exceeds_iff_real cur last (exponentOf64_of_zero h), real64_of_zero h, abs_pos, sub_ne_zero]

end Sys2Proof.Machine

/-! # Whole enumerations (42_enum R122 to R127): the closed form, its bounds, and how a running enumeration ends

A running enumeration is measured by the values from CUR to HI and by the budget left. Each counting tick that does not end it takes
one off both, and the closed form's list of samples loses its head; so one induction over the values left gives the closed form
(R123), and with it the bounds on the number of ticks (R125). -/

namespace Sys2Proof.Machine

/-! ## A running enumeration (10 R34, 42 R122) -/

/-- R34, as far as it speaks of a running enumeration: CUR, LAST and HI are finite, CUR has not passed HI, COUNT has not passed the
budget. -/
structure Running (s : State) : Prop where
  busy         : s.busy = true
  finiteCur    : isFinite s.cur = true
  finiteLast   : isFinite s.last = true
  finiteHi     : isFinite s.hi = true
  curLeHi      : key s.cur ≤ key s.hi
  withinBudget : s.budget ≠ 0#64 → s.count.toNat ≤ s.budget.toNat

section Running

variable {s : State}

theorem Inv.running (h : Inv s) (hb : s.busy = true) : Running s := by
  obtain ⟨⟨-, hcur, hlast, hhi⟩, -, -, hrange, hcount⟩ := h
  exact ⟨hb, hcur, hlast, hhi, (hrange hb).2, hcount hb⟩

/-- R114: an accepted ENUM with finite bounds leaves a running enumeration. -/
theorem running_beginEnum {a b : Word} (ha : isFinite a = true) (hb : isFinite b = true) (e g : Word64) (s : State) :
    Running (beginEnum a b e g s) := by
  obtain ⟨hlo, hup⟩ := isFinite_bounds ha hb
  exact ⟨rfl, hlo, hlo, hup, key_lowerBound_le_key_upperBound a b, fun _ => Nat.zero_le _⟩

theorem running_beginStep (h : Running s) : Running (beginStep s) :=
  ⟨h.busy, h.finiteCur, h.finiteLast, h.finiteHi, h.curLeHi, h.withinBudget⟩

/-- R122: below HI there is a next value, because the largest finite pattern is below no finite pattern. -/
theorem Running.exists_next (h : Running s) (hne : s.cur ≠ s.hi) : ∃ r, next32 s.cur = .value r := by
  refine exists_next32_eq_value h.finiteCur fun hmax => hne ?_
  obtain ⟨-, htop⟩ := key_mem_interval h.finiteHi
  have hle := h.curLeHi
  rw [hmax, key_posMax] at hle
  exact hmax.trans (key_injective (key_posMax.trans (le_antisymm hle htop)))

theorem Running.key_lt (h : Running s) (hne : s.cur ≠ s.hi) : key s.cur < key s.hi :=
  lt_of_le_of_ne h.curLeHi fun he => hne (key_injective he)

/-- R117: a budget that is not spent lies above COUNT. -/
theorem Running.count_lt_budget (h : Running s) (hg : budgetSpent s = false) (hne : s.budget ≠ 0#64) :
    s.count.toNat < s.budget.toNat := by
  have hle := h.withinBudget hne
  have hleft := ((budgetSpent_eq_false_iff s).1 hg).resolve_left hne
  bv_omega

/-- R120: the enumeration is still running after a counting tick below HI. -/
theorem Running.advance (h : Running s) (hg : budgetSpent s = false) (hne : s.cur ≠ s.hi) {r : Word}
    (hr : next32 s.cur = .value r) : Running (advanceTo r (sampleCurrent (countOne s))) where
  busy := by simpa using h.busy
  finiteCur := isFinite_of_next32_value hr
  finiteLast := by cases he : exceeds s.cur s.last s.eps <;> simp [he, h.finiteCur, h.finiteLast]
  finiteHi := by simpa using h.finiteHi
  curLeHi := by
    have hlt := h.key_lt hne
    have hkey := key_of_next32_value hr
    simp only [advanceTo_cur, advanceTo_hi, sampleCurrent_hi, countOne_hi]
    omega
  withinBudget := by
    simp only [advanceTo_budget, sampleCurrent_budget, countOne_budget, advanceTo_count, sampleCurrent_count, countOne_count]
    intro hbudget
    have hlt := h.count_lt_budget hg hbudget
    bv_omega

end Running

/-- Settles O15: a budget ends with BudgetExceeded, HI with OK, and below HI there is a next value. -/
theorem enumNeverEndsAtInfinity : Obligations.EnumNeverEndsAtInfinity := by
  intro s t hinv hb h
  have hnone : s.status = 0#3 := hinv.busyShowsNone hb
  cases hr : (hostInput s).rst with
  | true =>
    rw [step_of_rst hr, Host.Outcome.next.injEq] at h
    subst h
    simp [State.reset, codeOf]
  | false =>
    rw [step_of_busy hr hb] at h
    obtain ⟨-, rfl⟩ | ⟨-, -, -, ⟨-, rfl⟩ | ⟨-, r, -, rfl⟩ | ⟨hne, hn, -⟩⟩ := tick_next h
    · simp [codeOf, errorStatus]
    · simp [codeOf]
    · simp [hnone, codeOf]
    · obtain ⟨r, hvalue⟩ := (hinv.running hb).exists_next hne
      simp [hvalue] at hn

/-! ## How much is left of a running enumeration (42 R123) -/

/-- R123: the number of values from CUR to HI inclusive. -/
def remaining (s : State) : Nat := (key s.hi - key s.cur + 1).toNat

/-- R117: how many more values the budget lets the enumeration count, where there is one. -/
def budgetLeft (s : State) : Nat := s.budget.toNat - s.count.toNat

/-- R123: the budget left covers the values from CUR to HI. -/
def coversRemaining (s : State) : Bool := s.budget == 0#64 || decide (remaining s ≤ budgetLeft s)

/-- R123: how many more values are counted. -/
def valuesLeft (s : State) : Nat := if coversRemaining s then remaining s else budgetLeft s

/-- R123: how many more ticks are made. -/
def ticksLeft (s : State) : Nat := if coversRemaining s then remaining s else budgetLeft s + 1

theorem coversRemaining_iff (s : State) : coversRemaining s = true ↔ s.budget = 0#64 ∨ remaining s ≤ budgetLeft s := by
  simp [coversRemaining]

section Left

variable {s : State}

/-- R123: just after its acceptance an enumeration is measured by the closed form's numbers. -/
theorem left_beginEnum (a b : Word) (e g : Word64) (s : State) :
    coversRemaining (beginEnum a b e g s) = budgetCovers a b g ∧
    valuesLeft (beginEnum a b e g s) = finalCount a b g ∧ ticksLeft (beginEnum a b e g s) = tickTotal a b g :=
  ⟨rfl, rfl, rfl⟩

@[simp] theorem remaining_beginStep (s : State) : remaining (beginStep s) = remaining s := rfl

@[simp] theorem ticksLeft_beginStep (s : State) : ticksLeft (beginStep s) = ticksLeft s := rfl

theorem Running.remaining_pos (h : Running s) : 0 < remaining s := by
  have hle := h.curLeHi
  unfold remaining
  omega

/-- R125: at most as many ticks are left as there are values from CUR to HI. -/
theorem ticksLeft_le_remaining (s : State) : ticksLeft s ≤ remaining s := by
  unfold ticksLeft
  split_ifs with hc
  · exact le_rfl
  · rw [coversRemaining_iff, not_or] at hc
    omega

/-- R125: under a budget, at most as many ticks are left as the budget has values left, and one. -/
theorem ticksLeft_le_budgetLeft (hne : s.budget ≠ 0#64) : ticksLeft s ≤ budgetLeft s + 1 := by
  unfold ticksLeft
  split_ifs with hc
  · exact Nat.le_succ_of_le (((coversRemaining_iff s).1 hc).resolve_left hne)
  · exact le_rfl

/-- R117: once the budget is spent, one tick is left, which counts nothing. -/
theorem Running.left_of_budgetSpent (h : Running s) (hg : budgetSpent s = true) :
    coversRemaining s = false ∧ valuesLeft s = 0 ∧ ticksLeft s = 1 := by
  obtain ⟨hne, hcount⟩ := (budgetSpent_iff s).1 hg
  have hleft : budgetLeft s = 0 := by simp [budgetLeft, hcount]
  have hpos := h.remaining_pos
  have hcovers : coversRemaining s = false := by
    rw [← Bool.not_eq_true, coversRemaining_iff, not_or]
    exact ⟨hne, by omega⟩
  simp [valuesLeft, ticksLeft, hcovers, hleft]

/-- R121: at HI, with budget left, one tick is left, which counts HI. -/
theorem Running.left_of_cur_eq_hi (h : Running s) (hg : budgetSpent s = false) (hc : s.cur = s.hi) :
    coversRemaining s = true ∧ valuesLeft s = 1 ∧ ticksLeft s = 1 := by
  have hone : remaining s = 1 := by simp [remaining, hc]
  have hcovers : coversRemaining s = true := by
    rw [coversRemaining_iff, or_iff_not_imp_left]
    intro hne
    have hlt := h.count_lt_budget hg hne
    simp only [hone, budgetLeft]
    omega
  simp [valuesLeft, ticksLeft, hcovers, hone]

/-- R123: a counting tick below HI takes one off the values from CUR to HI. -/
theorem Running.remaining_of_advance (h : Running s) (hne : s.cur ≠ s.hi) {r : Word} (hr : next32 s.cur = .value r) :
    remaining s = remaining (advanceTo r (sampleCurrent (countOne s))) + 1 := by
  have hlt := h.key_lt hne
  have hkey := key_of_next32_value hr
  simp only [remaining, advanceTo_cur, advanceTo_hi, sampleCurrent_hi, countOne_hi]
  omega

/-- R123: it takes one off the values and the ticks that are left, and leaves it to the same end. -/
theorem Running.left_of_advance (h : Running s) (hg : budgetSpent s = false) (hne : s.cur ≠ s.hi) {r : Word}
    (hr : next32 s.cur = .value r) :
    coversRemaining s = coversRemaining (advanceTo r (sampleCurrent (countOne s))) ∧
    valuesLeft s = valuesLeft (advanceTo r (sampleCurrent (countOne s))) + 1 ∧
    ticksLeft s = ticksLeft (advanceTo r (sampleCurrent (countOne s))) + 1 := by
  have hremaining := h.remaining_of_advance hne hr
  have hbudget : s.budget ≠ 0#64 → budgetLeft s = budgetLeft (advanceTo r (sampleCurrent (countOne s))) + 1 := by
    intro hb
    have hlt := h.count_lt_budget hg hb
    simp only [budgetLeft, advanceTo_budget, sampleCurrent_budget, countOne_budget, advanceTo_count, sampleCurrent_count,
      countOne_count]
    bv_omega
  have hcovers : coversRemaining s = coversRemaining (advanceTo r (sampleCurrent (countOne s))) := by
    rw [Bool.eq_iff_iff, coversRemaining_iff, coversRemaining_iff, advanceTo_budget, sampleCurrent_budget, countOne_budget]
    by_cases hb : s.budget = 0#64
    · simp [hb]
    · rw [hremaining, hbudget hb, Nat.add_le_add_iff_right]
  refine ⟨hcovers, ?_⟩
  unfold valuesLeft ticksLeft
  rw [← hcovers]
  split_ifs with hc
  · exact ⟨hremaining, hremaining⟩
  · rw [coversRemaining_iff, not_or] at hc
    obtain ⟨hb, -⟩ := hc
    exact ⟨hbudget hb, congrArg (· + 1) (hbudget hb)⟩

end Left

/-! ## The closed form's list of samples (42 R119, R123) -/

/-- R123: the samples of one value. -/
theorem samplesFrom_one (e : Word64) (v l : Word) : samplesFrom e 1 v l = if exceeds v l e then [v] else [] := by
  simp only [samplesFrom]
  cases next32 v <;> rfl

/-- R119, R123: the samples of a value and of those that come after it. -/
theorem samplesFrom_succ_of_value {v r : Word} (h : next32 v = .value r) (e : Word64) (k : Nat) (l : Word) :
    samplesFrom e (k + 1) v l =
      (if exceeds v l e then [v] else []) ++ samplesFrom e k r (if exceeds v l e then v else l) := by
  simp only [samplesFrom, h]
  split <;> rfl

/-- R127 (e): the samples among `k` values that begin at `v` lie within `k` keys of `v`. -/
theorem key_mem_samplesFrom {e : Word64} {k : Nat} {v l w : Word} (hw : w ∈ samplesFrom e k v l) :
    key v ≤ key w ∧ key w < key v + k := by
  induction k generalizing v l with
  | zero => simp [samplesFrom] at hw
  | succ k ih =>
    have hhead : w ∈ (if exceeds v l e then [v] else []) → key v ≤ key w ∧ key w < key v + (k + 1 : Nat) := by
      intro hmem
      obtain rfl : w = v := by
        split at hmem
        · simpa using hmem
        · simp at hmem
      omega
    cases hn : next32 v with
    | value r =>
      rw [samplesFrom_succ_of_value hn, List.mem_append] at hw
      obtain hw | hw := hw
      · exact hhead hw
      · have hkey := key_of_next32_value hn
        have := ih hw
        omega
    | atInfinity | invalidInput =>
      exact hhead (by simpa [samplesFrom, hn] using hw)

/-! ## Runs that no reset interrupts (70 R170) -/

section Runs

variable {s t u : State} {n : Nat}

theorem hostInput_rst_of_noReset (h : NoReset (n + 1) s) : (hostInput s).rst = false := by
  cases hm : s.moves with
  | nil => simp [hostInput, hm, presentNothing]
  | cons m rest => simpa [hostInput, hm] using h m (by simp [hm])

/-- What is presented in the steps after the first. -/
theorem noReset_of_moves_eq_tail (h : NoReset (n + 1) s) (ht : t.moves = s.moves.tail) : NoReset n t := by
  intro m hm
  rw [ht] at hm
  cases hs : s.moves with
  | nil => simp [hs] at hm
  | cons m' rest => exact h m (by simp_all)

theorem NoReset.mono {m : Nat} (h : NoReset n s) (hle : m ≤ n) : NoReset m s :=
  fun x hx => h x (List.take_subset_take_left _ hle hx)

/-- R20: `n` steps lead from `s` to `t`, BUSY holds before each of them and no longer after the last. -/
structure BusyUntil (n : Nat) (s t : State) : Prop where
  busy  : ∀ k < n, ∃ u, run k s = .next u ∧ u.busy = true
  ends  : run n s = .next t
  ready : t.busy = false

/-- The last tick. -/
theorem busyUntil_one (hb : s.busy = true) (h : step s = .next t) (ht : t.busy = false) : BusyUntil 1 s t where
  busy k hk := ⟨s, by rw [Nat.lt_one_iff.1 hk, run_zero], hb⟩
  ends := run_succ_of_next 0 h
  ready := ht

/-- Any tick before the last. -/
theorem BusyUntil.succ (hb : s.busy = true) (h : step s = .next u) (hu : BusyUntil n u t) : BusyUntil (n + 1) s t where
  busy
    | 0, _ => ⟨s, run_zero s, hb⟩
    | k + 1, hk => by
      rw [run_succ_of_next k h]
      exact hu.busy k (by omega)
  ends := (run_succ_of_next n h).trans hu.ends
  ready := hu.ready

/-- R123: what `t` holds is what the closed form says an enumeration ends with that is at `s` now. -/
structure EndsAs (s t : State) : Prop where
  status  : t.status = codeOf (if coversRemaining s then .ok else .budgetExceeded)
  count   : t.count = s.count + BitVec.ofNat 64 (valuesLeft s)
  samples : t.samples = s.samples ++ samplesFrom s.eps (valuesLeft s) s.cur s.last
  result  : t.result = s.result

/-- R175: what the start of a step changes is no part of a running enumeration. -/
theorem EndsAs.of_beginStep (h : EndsAs (beginStep s) t) : EndsAs s t := ⟨h.status, h.count, h.samples, h.result⟩

/-- R117: the tick that finds the budget spent. -/
theorem Running.endsAs_of_budgetSpent (h : Running s) (hg : budgetSpent s = true) :
    EndsAs s (raiseError .budgetExceeded s) := by
  obtain ⟨hcovers, hvalues, -⟩ := h.left_of_budgetSpent hg
  constructor <;> simp [hcovers, hvalues, errorStatus, samplesFrom]

/-- R121: the tick that counts HI. -/
theorem Running.endsAs_of_cur_eq_hi (h : Running s) (hg : budgetSpent s = false) (hc : s.cur = s.hi) :
    EndsAs s (finishRun (sampleCurrent (countOne s))) := by
  obtain ⟨hcovers, hvalues, -⟩ := h.left_of_cur_eq_hi hg hc
  refine ⟨by simp [hcovers], by simp [hvalues], ?_, by simp⟩
  rw [hvalues, samplesFrom_one]
  cases he : exceeds s.cur s.last s.eps <;> simp [he]

/-- R120: the counting tick below HI, before an enumeration that ends as the closed form says. -/
theorem Running.endsAs_of_advance (h : Running s) (hg : budgetSpent s = false) (hne : s.cur ≠ s.hi) {r : Word}
    (hr : next32 s.cur = .value r) (ht : EndsAs (advanceTo r (sampleCurrent (countOne s))) t) : EndsAs s t := by
  obtain ⟨hcovers, hvalues, -⟩ := h.left_of_advance hg hne hr
  obtain ⟨hstatus, hcount, hsamples, hresult⟩ := ht
  refine ⟨by rw [hcovers, hstatus], ?_, ?_, by simpa using hresult⟩
  · rw [hcount, hvalues, BitVec.ofNat_add]
    simp only [advanceTo_count, sampleCurrent_count, countOne_count]
    ac_rfl
  · rw [hsamples, hvalues, samplesFrom_succ_of_value hr]
    cases he : exceeds s.cur s.last s.eps <;> simp [he]

/-- R123: a running enumeration that no reset interrupts is BUSY through the ticks it has left and ends as the closed form says. By
induction on the values from CUR to HI, along the three ways a tick can go. -/
theorem Running.exists_busyUntil (h : Running s) (hn : NoReset (ticksLeft s) s) :
    ∃ t, BusyUntil (ticksLeft s) s t ∧ EndsAs s t := by
  induction hm : remaining s generalizing s with
  | zero => exact absurd hm h.remaining_pos.ne'
  | succ m ih =>
    have h' := running_beginStep h
    cases hg : budgetSpent (beginStep s) with
    | true =>
      obtain ⟨-, -, hticks⟩ := h.left_of_budgetSpent hg
      rw [hticks] at hn ⊢
      have hstep := (step_of_busy (hostInput_rst_of_noReset hn) h.busy).trans (tick_of_budgetSpent hg)
      exact ⟨_, busyUntil_one h.busy hstep rfl, (h'.endsAs_of_budgetSpent hg).of_beginStep⟩
    | false =>
      by_cases hc : s.cur = s.hi
      · obtain ⟨-, -, hticks⟩ := h.left_of_cur_eq_hi hg hc
        rw [hticks] at hn ⊢
        have hstep := (step_of_busy (hostInput_rst_of_noReset hn) h.busy).trans
          (tick_of_cur_eq_hi hg h'.finiteCur h'.finiteLast hc)
        exact ⟨_, busyUntil_one h.busy hstep rfl, (h'.endsAs_of_cur_eq_hi hg hc).of_beginStep⟩
      · obtain ⟨r, hr⟩ := h'.exists_next hc
        obtain ⟨-, -, hticks⟩ := h'.left_of_advance hg hc hr
        have hremaining := h'.remaining_of_advance hc hr
        rw [ticksLeft_beginStep] at hticks
        rw [remaining_beginStep] at hremaining
        rw [hticks] at hn ⊢
        have hstep := (step_of_busy (hostInput_rst_of_noReset hn) h.busy).trans (tick_of_value hg h'.finiteLast hc hr)
        obtain ⟨t, hbusy, hends⟩ := ih (h'.advance hg hc hr) (noReset_of_moves_eq_tail hn (by simp)) (by omega)
        exact ⟨t, hbusy.succ h.busy hstep, (h'.endsAs_of_advance hg hc hr hends).of_beginStep⟩

end Runs

/-! ## Whole enumerations (42 R123, R125, R127) -/

/-- Settles O49: a running enumeration ends after the ticks it has left. -/
theorem everyEnumTerminates : Obligations.EveryEnumTerminates := by
  intro s hinv hb hn
  have hle : ticksLeft s ≤ remaining s := ticksLeft_le_remaining s
  have hrun := hinv.running hb
  obtain ⟨t, hbusy, -⟩ := hrun.exists_busyUntil (hn.mono hle)
  refine ⟨ticksLeft s, t, hbusy.ends, hbusy.ready, ?_, ticksLeft_le_budgetLeft⟩
  have hrange := hrun.curLeHi
  unfold remaining at hle
  omega

/-- R123: a range of finite bounds has at least one value and at most all finite patterns. -/
theorem rangeSize_bounds {a b : Word} (ha : isFinite a = true) (hb : isFinite b = true) :
    1 ≤ rangeSize a b ∧ rangeSize a b ≤ 4278190080 := by
  obtain ⟨hlo, hup⟩ := isFinite_bounds ha hb
  obtain ⟨hbot, -⟩ := key_mem_interval hlo
  obtain ⟨-, htop⟩ := key_mem_interval hup
  have hle := key_lowerBound_le_key_upperBound a b
  unfold rangeSize
  omega

/-- R123: the range bounds the final COUNT, with a budget or without. -/
theorem finalCount_le_rangeSize (a b : Word) (g : Word64) : finalCount a b g ≤ rangeSize a b := by
  unfold finalCount
  split_ifs with hc
  · exact le_rfl
  · simp only [budgetCovers, Bool.or_eq_true, decide_eq_true_iff, not_or] at hc
    omega

/-- R127 (e): the closed form's samples lie between the bounds. -/
theorem key_mem_samplesFrom_bounds {a b v : Word} {e g : Word64}
    (hv : v ∈ samplesFrom e (finalCount a b g) (lowerBound a b) (lowerBound a b)) :
    key (lowerBound a b) ≤ key v ∧ key v ≤ key (upperBound a b) := by
  obtain ⟨hlo, hhi⟩ := key_mem_samplesFrom hv
  have hle := finalCount_le_rangeSize a b g
  have hbounds := key_lowerBound_le_key_upperBound a b
  unfold rangeSize at hle
  exact ⟨hlo, by omega⟩

/-- R114: the step that accepts an ENUM with finite bounds. -/
theorem step_of_presented_enum {a b : Word} {e g : Word64} {s : State} {rest : List HostMove} (hb : s.busy = false)
    (hr : s.resetSeen = true) (ha : isFinite a = true) (hb' : isFinite b = true)
    (hm : s.moves = present (encode (.enum a b e g)) :: rest) : step s = .next (beginEnum a b e g (beginStep s)) := by
  have hin : hostInput s = present (encode (.enum a b e g)) := by simp [hostInput, hm]
  rw [step_of_command (by rw [hin]; rfl) hb (by rw [hin]; rfl), hin, present, decode_encode,
    exec_enum_of_finite (s := beginStep s) hb hr (by rw [ha, hb', Bool.and_true])]

/-- Settles O48: the acceptance leaves a running enumeration with the closed form's numbers left. -/
theorem enumClosedForm : Obligations.EnumClosedForm := by
  intro a b e g s rest hb hr ha hb' hm hn
  have hstep := step_of_presented_enum hb hr ha hb' hm
  have hrunning := running_beginEnum ha hb' e g (beginStep s)
  obtain ⟨hcovers, hvalues, hticks⟩ := left_beginEnum a b e g (beginStep s)
  obtain ⟨t, hbusy, hstatus, hcount, hsamples, hresult⟩ :=
    hrunning.exists_busyUntil (hticks ▸ noReset_of_moves_eq_tail hn rfl)
  rw [hticks] at hbusy
  rw [hcovers] at hstatus
  rw [hvalues] at hcount hsamples
  have hsize := rangeSize_bounds ha hb'
  have hlt : finalCount a b g < 2 ^ 64 := by
    have := finalCount_le_rangeSize a b g
    omega
  refine ⟨fun k hk => ?_, t, (run_succ_of_next _ hstep).trans hbusy.ends, hbusy.ready, hstatus, ?_, hsamples, fun v hv => ?_,
    hresult, hsize⟩
  · rw [run_succ_of_next k hstep]
    exact hbusy.busy k hk
  · rw [hcount, show (beginEnum a b e g (beginStep s)).count = 0#64 from rfl, BitVec.zero_add, BitVec.toNat_ofNat,
      Nat.mod_eq_of_lt hlt]
  · exact key_mem_samplesFrom_bounds (hsamples ▸ hv)

/-! ## One value, and ranges across zero (42 R127) -/

theorem rangeSize_self (v : Word) : rangeSize v v = 1 := by
  simp [rangeSize, lowerBound_self, upperBound_self]

/-- R117: without a budget every range is covered. -/
theorem budgetCovers_zero (a b : Word) : budgetCovers a b 0#64 = true := rfl

theorem finalCount_zero (a b : Word) : finalCount a b 0#64 = rangeSize a b := if_pos (budgetCovers_zero a b)

theorem tickTotal_zero (a b : Word) : tickTotal a b 0#64 = rangeSize a b := if_pos (budgetCovers_zero a b)

theorem fixed64_nonneg {eps : Word64} (h : signOf64 eps = 0#1) : 0 ≤ fixed64 eps := by
  rw [fixed64_of_sign_zero h]
  exact Int.natCast_nonneg _

/-- R127 (b): a value lies at distance 0 from itself, which exceeds no epsilon that is not negative and no NaN. -/
theorem exceeds_self_eq_false {eps : Word64} (v : Word)
    (h : signOf64 eps = 0#1 ∨ eps = 0x8000000000000000#64 ∨ (exponentOf64 eps = 2047#11 ∧ fractionOf64 eps ≠ 0#52)) :
    exceeds v v eps = false := by
  by_cases hE : exponentOf64 eps = 2047#11
  · by_cases hF : fractionOf64 eps = 0#52
    · have hs : signOf64 eps = 0#1 := by
        obtain hs | rfl | ⟨-, hne⟩ := h
        · exact hs
        · exact absurd hE (by decide)
        · exact absurd hF hne
      rw [exceeds, epsValue, if_pos hE, if_pos hF, if_pos hs]
    · exact exceeds_of_nan v v hE hF
  · have hnonneg : 0 ≤ fixed64 eps := by
      obtain hs | rfl | ⟨hE', -⟩ := h
      · exact fixed64_nonneg hs
      · decide
      · exact absurd hE' hE
    rw [← Bool.not_eq_true, exceeds_iff_fixed v v hE]
    simpa [fixedDistance] using hnonneg

/-- Settles O50: the closed form with one value. -/
theorem singleValueCountsOne : Obligations.SingleValueCountsOne := by
  intro v eps s rest hb hr hv hm hn
  have hticks : tickTotal v v 0#64 = 1 := (tickTotal_zero v v).trans (rangeSize_self v)
  have hfinal : finalCount v v 0#64 = 1 := (finalCount_zero v v).trans (rangeSize_self v)
  obtain ⟨-, t, hrun, hready, hstatus, hcount, hsamples, -⟩ :=
    enumClosedForm v v eps 0#64 s rest hb hr hv hv hm (by rwa [hticks])
  rw [hticks] at hrun
  rw [hfinal] at hcount hsamples
  refine ⟨t, hrun, hready, hstatus, BitVec.eq_of_toNat_eq hcount, fun heps => ?_⟩
  rw [hsamples, samplesFrom_one, lowerBound_self, exceeds_self_eq_false v heps]
  rfl

/-- R103: a walk reaches every finite pattern whose key lies as many steps above. -/
theorem walk_eq_some_of_key_eq {p r : Word} {n : Nat} (hp : isFinite p = true) (hr : isFinite r = true)
    (h : key r = key p + n) : walk p n = some r := by
  obtain ⟨-, htop⟩ := key_mem_interval hr
  obtain ⟨q, hq, -⟩ := exists_walk_eq_some hp (h ▸ htop)
  rwa [key_injective ((key_of_walk_eq_some hq).trans h.symm)] at hq

/-- R113: bounds given in order stay in order. -/
theorem bounds_of_key_le {a b : Word} (h : key a ≤ key b) : lowerBound a b = a ∧ upperBound a b = b :=
  ⟨if_pos h, if_pos h⟩

/-- R127 (c): −x, the pattern of `x` with its sign bit set, as a number. -/
theorem toNat_or_signBit {x : Word} (h : signOf x = 0#1) : (x ||| 0x80000000#32).toNat = 2147483648 + x.toNat := by
  have hlt : x.toNat < 2 ^ 31 := by
    rw [← BitVec.toNat_inj, signOf_toNat, BitVec.toNat_ofNat] at h
    omega
  rw [BitVec.toNat_or, Nat.or_comm]
  exact (Nat.two_pow_add_eq_or_of_lt hlt 1).symm

/-- R88, R127 (c): −x has the key −1 − mag x, and is finite if x is. -/
theorem key_or_signBit {x : Word} (h : signOf x = 0#1) : key (x ||| 0x80000000#32) = -1 - (magOf x).toNat := by
  have hnum := toNat_eq_sign_mag x
  rw [h, BitVec.toNat_ofNat] at hnum
  rw [key_eq, toNat_or_signBit h, if_neg (by omega)]
  push_cast
  omega

theorem isFinite_or_signBit {x : Word} (h : signOf x = 0#1) (hf : isFinite x = true) :
    isFinite (x ||| 0x80000000#32) = true := by
  rw [isFinite_iff] at hf ⊢
  rw [toNat_or_signBit h]
  omega

/-- Settles O51: the keys of −x, −0, +0 and x are −1 − mag x, −1, 0 and mag x. -/
theorem rangesAcrossZero : Obligations.RangesAcrossZero := by
  refine ⟨fun x hs hf _ => ?_, by decide, by decide, by decide⟩
  have hneg := key_or_signBit hs
  have hpos := key_of_sign_zero hs
  have hnegf := isFinite_or_signBit hs hf
  obtain ⟨hlo, hup⟩ := bounds_of_key_le (a := x ||| 0x80000000#32) (b := x) (by omega)
  have hsize : rangeSize (x ||| 0x80000000#32) x = 2 * (magOf x).toNat + 2 := by
    rw [rangeSize, hlo, hup, hneg, hpos]
    omega
  have hnegZero : key 0x80000000#32 = -1 := by decide
  have hposZero : key 0x00000000#32 = 0 := by decide
  refine ⟨hsize, (finalCount_zero _ _).trans hsize, hlo, hup, walk_eq_some_of_key_eq hnegf (by decide) ?_,
    walk_eq_some_of_key_eq hnegf (by decide) ?_, walk_eq_some_of_key_eq hnegf hf ?_⟩
  · omega
  · omega
  · omega

end Sys2Proof.Machine

/-! # Errors and the platform (60_exceptions): raising an error, NONE in a ready unit, the idle step, several units

NONE in a ready unit is settled along the cases of `step_next`: a reset step writes the reset values, an idle step keeps every
register, and every other step leaves the unit BUSY or shows a code other than NONE. -/

namespace Sys2Proof.Machine

/-- Settles O55: the three codes evaluated. -/
theorem raisingAnError : Obligations.RaisingAnError := fun _ => ⟨rfl, rfl, rfl⟩

/-- Settles O11: an idle step is the start of a step alone. -/
theorem idleStepChangesNothing : Obligations.IdleStepChangesNothing := fun _ hr hb hv => step_of_idle hr hb hv

/-! ## NONE in a ready unit (60 R155) -/

section Fresh

variable {s t : State}

/-- R137: code 0 is NONE's alone. -/
theorem codeOf_eq_zero_iff (c : StatusCode) : codeOf c = 0#3 ↔ c = .none := by cases c <;> decide

/-- R136, R155: no error kind is reported as NONE. -/
theorem errorStatus_ne_none (k : ErrorKind) : errorStatus k ≠ .none := by cases k <;> decide

theorem noneMeansFresh_of_busy (hb : s.busy = true) : NoneMeansFresh s := fun h => absurd h (by simp [hb])

/-- R155: a unit that shows the code of an ending need not be fresh. -/
theorem noneMeansFresh_of_status {c : StatusCode} (hs : s.status = codeOf c) (hc : c ≠ .none) : NoneMeansFresh s :=
  fun _ h => absurd ((codeOf_eq_zero_iff c).1 (hs ▸ h)) hc

theorem noneMeansFresh_raiseError (k : ErrorKind) (s : State) : NoneMeansFresh (raiseError k s) :=
  noneMeansFresh_of_status rfl (errorStatus_ne_none k)

theorem noneMeansFresh_finishRun (s : State) : NoneMeansFresh (finishRun s) :=
  noneMeansFresh_of_status (c := .ok) rfl (by decide)

/-- R35: a reset step writes every reset value. -/
theorem noneMeansFresh_resetUnit (s : State) : NoneMeansFresh (resetUnit s) :=
  fun _ _ => ⟨rfl, rfl, rfl, rfl, rfl, rfl, rfl, rfl⟩

/-- R105: STEP completes with OK or with an error. -/
theorem noneMeansFresh_completeStep (a : Word) (s : State) : NoneMeansFresh (completeStep a s) := by
  obtain ⟨r, -, h⟩ | ⟨-, h⟩ | ⟨-, h⟩ := completeStep_cases a s <;> rw [h]
  · exact noneMeansFresh_of_status (c := .ok) rfl (by decide)
  · exact noneMeansFresh_raiseError _ _
  · exact noneMeansFresh_raiseError _ _

/-- R120: a tick ends the enumeration with a code other than NONE, or goes on BUSY. -/
theorem noneMeansFresh_tick (hb : s.busy = true) (h : tick s = .next t) : NoneMeansFresh t := by
  obtain ⟨-, rfl⟩ | ⟨-, -, -, ⟨-, rfl⟩ | ⟨-, r, -, rfl⟩ | ⟨-, -, rfl⟩⟩ := tick_next h
  · exact noneMeansFresh_raiseError _ _
  · exact noneMeansFresh_finishRun _
  · exact noneMeansFresh_of_busy (by simpa using hb)
  · exact noneMeansFresh_raiseError _ _

end Fresh

/-- Settles O17: only the idle step uses that the unit was fresh before. -/
theorem noneInAReadyUnitMeansFresh : Obligations.NoneInAReadyUnitMeansFresh := by
  intro s t hfresh h
  obtain ⟨-, rfl⟩ | ⟨-, hb, htick⟩ | ⟨-, -, -, a, -, rfl⟩ | ⟨-, -, -, a, b, e, g, -, hacc⟩ | ⟨-, -, -, rfl⟩ := step_next h
  · exact noneMeansFresh_resetUnit _
  · exact noneMeansFresh_tick (s := beginStep s) hb htick
  · exact noneMeansFresh_completeStep a _
  · obtain ⟨-, -, rfl⟩ | ⟨-, rfl⟩ := hacc
    · exact noneMeansFresh_of_busy rfl
    · exact noneMeansFresh_raiseError _ _
  · exact hfresh

/-! ## Several units (60 R156) -/

/-- R156: whatever a step of unit `k` can do when it answers a next system. -/
theorem stepUnit_next {k : Nat} {us vs : List State} (h : stepUnit k us = .next vs) :
    (us[k]? = none ∧ vs = us) ∨ ∃ s t, us[k]? = some s ∧ step s = .next t ∧ vs = us.set k t := by
  unfold stepUnit at h
  cases hk : us[k]? with
  | none =>
    simp only [hk, Host.Outcome.next.injEq] at h
    exact .inl ⟨rfl, h.symm⟩
  | some s =>
    cases hs : step s with
    | next t =>
      simp only [hk, hs, Host.Outcome.next.injEq] at h
      exact .inr ⟨s, t, rfl, hs, h.symm⟩
    | fault f => simp [hk, hs] at h
    | refused r => simp [hk, hs] at h

/-- R156: a step of unit `k` leaves every other unit as it was. -/
theorem stepUnit_frame {k : Nat} {us vs : List State} (h : stepUnit k us = .next vs) :
    vs.length = us.length ∧ ∀ j : Nat, j ≠ k → vs[j]? = us[j]? := by
  obtain ⟨-, rfl⟩ | ⟨s, t, -, -, rfl⟩ := stepUnit_next h
  · exact ⟨rfl, fun _ _ => rfl⟩
  · exact ⟨List.length_set, fun j hj => List.getElem?_set_ne hj.symm⟩

/-- R156: unit `k` after its step is a function of unit `k` alone. -/
theorem stepUnit_getElem?_self {k : Nat} {us vs : List State} (h : stepUnit k us = .next vs) :
    vs[k]? = us[k]?.bind fun s => nextState? (step s) := by
  obtain ⟨hk, rfl⟩ | ⟨s, t, hk, hs, rfl⟩ := stepUnit_next h
  · simp [hk]
  · simp [List.getElem?_set_self', hk, hs, nextState?]

/-- Settles O56: the frame of a unit's step, and its own unit as a function of itself. -/
theorem unitsShareNothing : Obligations.UnitsShareNothing :=
  ⟨fun _ _ _ h => stepUnit_frame h, fun k us us' vs vs' hk h h' => by
    rw [stepUnit_getElem?_self h, stepUnit_getElem?_self h', hk]⟩

end Sys2Proof.Machine

/-! # Reset and hazards (70_reset_and_hazards): which step happens, and that none stops once the unit has been reset

Progress is one case split along R175: a reset step and an idle step always answer, a tick answers where CUR and LAST are finite, and
an accepted command answers in a unit that has been reset. That what it answers is again such a state is `inv_step` and
`resetSeen_step`. -/

namespace Sys2Proof.Machine

/-! ## Which step happens (70 R175) -/

/-- Settles O7: one lemma for each kind of step. -/
theorem whichStepHappens : Obligations.WhichStepHappens :=
  fun _ => ⟨step_of_rst, step_of_busy, step_of_command, step_of_idle⟩

/-- Log entry 8: a placed command word is the next host move of a unit that is made ready. -/
theorem withFetchWord_of_lt {n w : Nat} (h : w < 2 ^ 193) (s : State) : s.withFetchWord n w =
    { s with busy := false, moves := present (splitWord (BitVec.ofNat 193 w)) :: s.moves.tail } := by
  simp only [State.withFetchWord, isCommandWord, h, decide_true, if_true]

/-- Settles O6: only command words decode, and a placed one is accepted, being presented to a ready unit. -/
theorem stepRunsTheDecodedCommand : Obligations.StepRunsTheDecodedCommand := by
  refine ⟨fun s hr hb hv => step_of_command hr hb hv, fun s w i hi => ?_⟩
  obtain hw | hw := Nat.lt_or_ge w (2 ^ 193)
  · rw [decodeTableWord_of_lt hw, Option.some.injEq] at hi
    subst hi
    rw [withFetchWord_of_lt hw]
    exact step_of_command rfl rfl rfl
  · simp [decodeTableWord_of_le hw] at hi

/-! ## Reset, and commands that are not accepted (70 R159, R160, R163) -/

/-- Settles O8: the reset step starts from `State.reset`. -/
theorem resetStepLeavesResetValues : Obligations.ResetStepLeavesResetValues :=
  fun _ hr => ⟨_, step_of_rst hr, rfl, rfl, rfl, rfl, rfl, rfl, rfl, rfl, rfl, rfl, rfl, rfl, rfl, rfl⟩

/-- Log entry 7: a BUSY unit is left as it was by a command. -/
theorem exec_of_busy {s : State} (hb : s.busy = true) (i : Instr) : exec i s = .next s := by
  cases i with
  | step a => exact if_pos hb
  | enum a b e g => exact if_pos hb

/-- Settles O9: with or without a command the unit makes the tick of the same state, the host moves being used up. -/
theorem busyUnitAcceptsNoCommand : Obligations.BusyUnitAcceptsNoCommand := by
  refine fun s hb => ⟨by simp [cmdReady, hb], exec_of_busy hb, fun rest c => ?_⟩
  rw [step_of_busy (s := { s with moves := present c :: rest }) rfl hb,
    step_of_busy (s := { s with moves := presentNothing :: rest }) rfl hb]
  rfl

/-- 93 U7, log entry 4: a ready unit that was never reset gives no command a meaning. -/
theorem exec_of_not_resetSeen {s : State} (hb : s.busy = false) (hr : s.resetSeen = false) (i : Instr) :
    exec i s = .refused .beforeFirstReset := by
  cases i with
  | step a => simp [exec, execStep, hb, hr]
  | enum a b e g => simp [exec, execEnum, hb, hr]

/-- Settles O10: the refusal, and the reset step from power-up. -/
theorem commandBeforeFirstResetIsRefused : Obligations.CommandBeforeFirstResetIsRefused :=
  ⟨fun i _ hb hr => exec_of_not_resetSeen hb hr i, fun _ _ _ => ⟨_, step_of_rst rfl, rfl⟩⟩

/-! ## Progress once the unit has been reset (70 R174) -/

section Progress

variable {s t : State}

/-- R160: a reset step is never forgotten. -/
theorem resetSeen_step (hs : s.resetSeen = true) (h : step s = .next t) : t.resetSeen = true := by
  obtain ⟨-, rfl⟩ | ⟨-, -, htick⟩ | ⟨-, hb, -, a, -, rfl⟩ | ⟨-, -, -, a, b, e, g, -, hacc⟩ | ⟨-, -, -, rfl⟩ := step_next h
  · rfl
  · obtain ⟨-, -, -, -, -, -, hseen⟩ := tick_frame htick
    exact hseen.trans hs
  · obtain ⟨r, c, he⟩ := exists_completeStep_eq (s := beginStep s) hb a
    simpa [he] using hs
  · obtain ⟨-, -, rfl⟩ | ⟨-, rfl⟩ := hacc
    · exact hs
    · exact hs
  · exact hs

/-- R174, R175: every input has a defined effect on a good state that has been reset. -/
theorem exists_step_eq_next (h : Inv s) (hs : s.resetSeen = true) : ∃ t, step s = .next t := by
  cases hr : (hostInput s).rst with
  | true => exact ⟨_, step_of_rst hr⟩
  | false =>
    cases hb : s.busy with
    | true =>
      obtain ⟨-, hcur, hlast, -⟩ := h.finitePatterns
      rw [step_of_busy hr hb]
      exact exists_tick_eq_next (s := beginStep s) hcur hlast
    | false =>
      cases hv : (hostInput s).cmdValid with
      | true =>
        obtain ⟨t, ht, -⟩ := illFormedOperandsCompleteWithInvalidInput (decode (hostInput s).cmd) (beginStep s) hb hs
        exact ⟨t, (step_of_command hr hb hv).trans ht⟩
      | false => exact ⟨_, step_of_idle hr hb hv⟩

end Progress

/-- Settles O14: progress, and that both premises are kept. -/
theorem stepNeverStopsAfterReset : Obligations.StepNeverStopsAfterReset := by
  intro s h hs
  obtain ⟨t, ht⟩ := exists_step_eq_next h hs
  exact ⟨t, ht, inv_step h ht, resetSeen_step hs ht⟩

/-! ## COUNT while an ENUM runs (70 R167) -/

/-- Settles O47: a tick that finds the budget spent keeps COUNT, and any other counts one, which does not wrap below the bound. -/
theorem countRisesByAtMostOne : Obligations.CountRisesByAtMostOne := by
  intro s t hbound hb hr h
  rw [step_of_busy hr hb] at h
  rw [tick_count h]
  split
  · exact .inl rfl
  · exact .inr (countOne_count_toNat hbound)

end Sys2Proof.Machine
